-- ==== Sys2Proof/Word.lean ====
section
/-! DEFINITION. The two word types of the machine (R7). -/

namespace Sys2Proof

/-- A byte, 8 bits (R7). -/
abbrev Byte := BitVec 8

/-- A word, 16 bits: addresses, PC, SP and the register pairs (R6, R7). -/
abbrev Word := BitVec 16

end Sys2Proof
end

