-- ==== Sys2Proof/Machine/Bits.lean ====
section
/-! DEFINITION. Bit fields, byte order and wrapping (R7, R8, R12, R23). -/

namespace Sys2Proof.Machine

/-- `v[15:8]` (R7). -/
def hiByte (v : Word) : Byte := v.extractLsb' 8 8

/-- `v[7:0]` (R7). -/
def loByte (v : Word) : Byte := v.extractLsb' 0 8

/-- `v[hi:lo]` of a byte, as a number (R7). -/
def bits (v : Byte) (hi lo : Nat) : Nat := v.toNat / 2 ^ lo % 2 ^ (hi - lo + 1)

/-- `hi : lo`, the word `hi * 256 + lo` (R7, R23). -/
def mkWord (hi lo : Byte) : Word := hi ++ lo

/-- `u8(t)`: an exact result reduced modulo 256, also for negative `t` (R8). -/
def u8 (t : Int) : Byte := BitVec.ofInt 8 t

/-- `u16(t)`: an exact result reduced modulo 65536, also for negative `t` (R8). -/
def u16 (t : Int) : Word := BitVec.ofInt 16 t

/-- `popcount(v)`, the number of 1 bits (R8). -/
def popcount (v : Byte) : Nat := (List.range 8).countP v.getLsbD

end Sys2Proof.Machine
end

