-- ==== Sys2Proof/Syntax.lean ====
section
/-! DEFINITION. The instructions, one constructor per row of spec/opcode_table.json (R100), the names their opcode
fields stand for (R27, R28, R36, R96), and the families of instructions that differ in such a field only. -/

namespace Sys2Proof

/-- The general registers (R21), in the order of their codes (R27). -/
inductive Reg where
  | b | c | d | e | h | l | a
deriving DecidableEq, Repr

/-- What a 3-bit register code selects: a register, or M, the byte at `H : L` (R26, R27). -/
inductive Operand where
  | reg (r : Reg)
  | m
deriving DecidableEq, Repr

/-- The pairs of LXI, INX, DCX and DAD (R28). -/
inductive Pair where
  | bc | de | hl | sp
deriving DecidableEq, Repr

/-- The pairs of PUSH and POP (R28). -/
inductive StackPair where
  | bc | de | hl | psw
deriving DecidableEq, Repr

/-- The pairs of LDAX and STAX (R28). -/
inductive IndexPair where
  | bc | de
deriving DecidableEq, Repr

/-- The conditions, in the order of their codes (R36). -/
inductive Cond where
  | nz | z | nc | c | po | pe | p | m
deriving DecidableEq, Repr

/-- The operations on A with a second operand, in the order of their codes (R96). -/
inductive AluOp where
  | add | adc | sub | sbb | ana | xra | ora | cmp
deriving DecidableEq, Repr

/-- The instructions, in the order of their opcodes (R100). An immediate operand is a byte or a word. -/
inductive Instr where
  | nop | lxiB (v : Word) | staxB | inxB | inrB | dcrB | mviB (v : Byte) | rlc | dadB | ldaxB | dcxB | inrC
  | dcrC | mviC (v : Byte) | rrc
  | lxiD (v : Word) | staxD | inxD | inrD | dcrD | mviD (v : Byte) | ral | dadD | ldaxD | dcxD | inrE | dcrE
  | mviE (v : Byte) | rar
  | lxiH (v : Word) | shld (a : Word) | inxH | inrH | dcrH | mviH (v : Byte) | dadH | lhld (a : Word) | dcxH
  | inrL | dcrL | mviL (v : Byte) | cma
  | lxiSp (v : Word) | sta (a : Word) | inxSp | inrM | dcrM | mviM (v : Byte) | stc | dadSp | lda (a : Word)
  | dcxSp | inrA | dcrA | mviA (v : Byte) | cmc
  | movBB | movBC | movBD | movBE | movBH | movBL | movBM | movBA | movCB | movCC | movCD | movCE | movCH
  | movCL | movCM | movCA
  | movDB | movDC | movDD | movDE | movDH | movDL | movDM | movDA | movEB | movEC | movED | movEE | movEH
  | movEL | movEM | movEA
  | movHB | movHC | movHD | movHE | movHH | movHL | movHM | movHA | movLB | movLC | movLD | movLE | movLH
  | movLL | movLM | movLA
  | movMB | movMC | movMD | movME | movMH | movML | hlt | movMA | movAB | movAC | movAD | movAE | movAH
  | movAL | movAM | movAA
  | addB | addC | addD | addE | addH | addL | addM | addA | adcB | adcC | adcD | adcE | adcH | adcL | adcM
  | adcA
  | subB | subC | subD | subE | subH | subL | subM | subA | sbbB | sbbC | sbbD | sbbE | sbbH | sbbL | sbbM
  | sbbA
  | anaB | anaC | anaD | anaE | anaH | anaL | anaM | anaA | xraB | xraC | xraD | xraE | xraH | xraL | xraM
  | xraA
  | oraB | oraC | oraD | oraE | oraH | oraL | oraM | oraA | cmpB | cmpC | cmpD | cmpE | cmpH | cmpL | cmpM
  | cmpA
  | rnz | popB | jnz (a : Word) | jmp (a : Word) | cnz (a : Word) | pushB | adi (v : Byte) | rz | ret
  | jz (a : Word) | cz (a : Word) | call (a : Word) | aci (v : Byte)
  | rnc | popD | jnc (a : Word) | outPort (p : Byte) | cnc (a : Word) | pushD | sui (v : Byte) | rc
  | jc (a : Word) | inPort (p : Byte) | cc (a : Word) | sbi (v : Byte)
  | rpo | popH | jpo (a : Word) | xthl | cpo (a : Word) | pushH | ani (v : Byte) | rpe | pchl | jpe (a : Word)
  | xchg | cpe (a : Word) | xri (v : Byte)
  | rp | popPsw | jp (a : Word) | cp (a : Word) | pushPsw | ori (v : Byte) | rm | sphl | jm (a : Word)
  | cm (a : Word) | cpi (v : Byte)
deriving DecidableEq, Repr

/-- MOV r1,r2 (R171). -/
def Instr.mov (dst src : Reg) : Instr :=
  match dst, src with
  | .b, .b => .movBB
  | .b, .c => .movBC
  | .b, .d => .movBD
  | .b, .e => .movBE
  | .b, .h => .movBH
  | .b, .l => .movBL
  | .b, .a => .movBA
  | .c, .b => .movCB
  | .c, .c => .movCC
  | .c, .d => .movCD
  | .c, .e => .movCE
  | .c, .h => .movCH
  | .c, .l => .movCL
  | .c, .a => .movCA
  | .d, .b => .movDB
  | .d, .c => .movDC
  | .d, .d => .movDD
  | .d, .e => .movDE
  | .d, .h => .movDH
  | .d, .l => .movDL
  | .d, .a => .movDA
  | .e, .b => .movEB
  | .e, .c => .movEC
  | .e, .d => .movED
  | .e, .e => .movEE
  | .e, .h => .movEH
  | .e, .l => .movEL
  | .e, .a => .movEA
  | .h, .b => .movHB
  | .h, .c => .movHC
  | .h, .d => .movHD
  | .h, .e => .movHE
  | .h, .h => .movHH
  | .h, .l => .movHL
  | .h, .a => .movHA
  | .l, .b => .movLB
  | .l, .c => .movLC
  | .l, .d => .movLD
  | .l, .e => .movLE
  | .l, .h => .movLH
  | .l, .l => .movLL
  | .l, .a => .movLA
  | .a, .b => .movAB
  | .a, .c => .movAC
  | .a, .d => .movAD
  | .a, .e => .movAE
  | .a, .h => .movAH
  | .a, .l => .movAL
  | .a, .a => .movAA

/-- MOV r,M (R172). -/
def Instr.movFromM (dst : Reg) : Instr :=
  match dst with
  | .b => .movBM
  | .c => .movCM
  | .d => .movDM
  | .e => .movEM
  | .h => .movHM
  | .l => .movLM
  | .a => .movAM

/-- MOV M,r (R173). -/
def Instr.movToM (src : Reg) : Instr :=
  match src with
  | .b => .movMB
  | .c => .movMC
  | .d => .movMD
  | .e => .movME
  | .h => .movMH
  | .l => .movML
  | .a => .movMA

/-- MVI (R174, R175). -/
def Instr.mvi (dst : Operand) (v : Byte) : Instr :=
  match dst with
  | .reg .b => .mviB v
  | .reg .c => .mviC v
  | .reg .d => .mviD v
  | .reg .e => .mviE v
  | .reg .h => .mviH v
  | .reg .l => .mviL v
  | .reg .a => .mviA v
  | .m => .mviM v

/-- INR (R132, R133). -/
def Instr.inr (o : Operand) : Instr :=
  match o with
  | .reg .b => .inrB
  | .reg .c => .inrC
  | .reg .d => .inrD
  | .reg .e => .inrE
  | .reg .h => .inrH
  | .reg .l => .inrL
  | .reg .a => .inrA
  | .m => .inrM

/-- DCR (R134, R135). -/
def Instr.dcr (o : Operand) : Instr :=
  match o with
  | .reg .b => .dcrB
  | .reg .c => .dcrC
  | .reg .d => .dcrD
  | .reg .e => .dcrE
  | .reg .h => .dcrH
  | .reg .l => .dcrL
  | .reg .a => .dcrA
  | .m => .dcrM

/-- The operations on A with a register or M (R96, R122 to R125, R130, R151 to R153). -/
def Instr.alu (op : AluOp) (o : Operand) : Instr :=
  match op, o with
  | .add, .reg .b => .addB
  | .add, .reg .c => .addC
  | .add, .reg .d => .addD
  | .add, .reg .e => .addE
  | .add, .reg .h => .addH
  | .add, .reg .l => .addL
  | .add, .reg .a => .addA
  | .add, .m => .addM
  | .adc, .reg .b => .adcB
  | .adc, .reg .c => .adcC
  | .adc, .reg .d => .adcD
  | .adc, .reg .e => .adcE
  | .adc, .reg .h => .adcH
  | .adc, .reg .l => .adcL
  | .adc, .reg .a => .adcA
  | .adc, .m => .adcM
  | .sub, .reg .b => .subB
  | .sub, .reg .c => .subC
  | .sub, .reg .d => .subD
  | .sub, .reg .e => .subE
  | .sub, .reg .h => .subH
  | .sub, .reg .l => .subL
  | .sub, .reg .a => .subA
  | .sub, .m => .subM
  | .sbb, .reg .b => .sbbB
  | .sbb, .reg .c => .sbbC
  | .sbb, .reg .d => .sbbD
  | .sbb, .reg .e => .sbbE
  | .sbb, .reg .h => .sbbH
  | .sbb, .reg .l => .sbbL
  | .sbb, .reg .a => .sbbA
  | .sbb, .m => .sbbM
  | .ana, .reg .b => .anaB
  | .ana, .reg .c => .anaC
  | .ana, .reg .d => .anaD
  | .ana, .reg .e => .anaE
  | .ana, .reg .h => .anaH
  | .ana, .reg .l => .anaL
  | .ana, .reg .a => .anaA
  | .ana, .m => .anaM
  | .xra, .reg .b => .xraB
  | .xra, .reg .c => .xraC
  | .xra, .reg .d => .xraD
  | .xra, .reg .e => .xraE
  | .xra, .reg .h => .xraH
  | .xra, .reg .l => .xraL
  | .xra, .reg .a => .xraA
  | .xra, .m => .xraM
  | .ora, .reg .b => .oraB
  | .ora, .reg .c => .oraC
  | .ora, .reg .d => .oraD
  | .ora, .reg .e => .oraE
  | .ora, .reg .h => .oraH
  | .ora, .reg .l => .oraL
  | .ora, .reg .a => .oraA
  | .ora, .m => .oraM
  | .cmp, .reg .b => .cmpB
  | .cmp, .reg .c => .cmpC
  | .cmp, .reg .d => .cmpD
  | .cmp, .reg .e => .cmpE
  | .cmp, .reg .h => .cmpH
  | .cmp, .reg .l => .cmpL
  | .cmp, .reg .a => .cmpA
  | .cmp, .m => .cmpM

/-- The operations on A with an immediate byte (R96, R126 to R129, R131, R154 to R156). -/
def Instr.aluImm (op : AluOp) (v : Byte) : Instr :=
  match op with
  | .add => .adi v
  | .adc => .aci v
  | .sub => .sui v
  | .sbb => .sbi v
  | .ana => .ani v
  | .xra => .xri v
  | .ora => .ori v
  | .cmp => .cpi v

/-- LXI rp (R176). -/
def Instr.lxi (p : Pair) (v : Word) : Instr :=
  match p with
  | .bc => .lxiB v
  | .de => .lxiD v
  | .hl => .lxiH v
  | .sp => .lxiSp v

/-- INX rp (R136). -/
def Instr.inx (p : Pair) : Instr :=
  match p with
  | .bc => .inxB
  | .de => .inxD
  | .hl => .inxH
  | .sp => .inxSp

/-- DCX rp (R137). -/
def Instr.dcx (p : Pair) : Instr :=
  match p with
  | .bc => .dcxB
  | .de => .dcxD
  | .hl => .dcxH
  | .sp => .dcxSp

/-- DAD rp (R138). -/
def Instr.dad (p : Pair) : Instr :=
  match p with
  | .bc => .dadB
  | .de => .dadD
  | .hl => .dadH
  | .sp => .dadSp

/-- LDAX rp (R179). -/
def Instr.ldax (p : IndexPair) : Instr :=
  match p with
  | .bc => .ldaxB
  | .de => .ldaxD

/-- STAX rp (R180). -/
def Instr.stax (p : IndexPair) : Instr :=
  match p with
  | .bc => .staxB
  | .de => .staxD

/-- PUSH rp (R211, R212). -/
def Instr.push (p : StackPair) : Instr :=
  match p with
  | .bc => .pushB
  | .de => .pushD
  | .hl => .pushH
  | .psw => .pushPsw

/-- POP rp (R213, R214). -/
def Instr.pop (p : StackPair) : Instr :=
  match p with
  | .bc => .popB
  | .de => .popD
  | .hl => .popH
  | .psw => .popPsw

/-- Jcc (R202). -/
def Instr.jumpIf (cond : Cond) (a : Word) : Instr :=
  match cond with
  | .nz => .jnz a
  | .z => .jz a
  | .nc => .jnc a
  | .c => .jc a
  | .po => .jpo a
  | .pe => .jpe a
  | .p => .jp a
  | .m => .jm a

/-- Ccc (R216). -/
def Instr.callIf (cond : Cond) (a : Word) : Instr :=
  match cond with
  | .nz => .cnz a
  | .z => .cz a
  | .nc => .cnc a
  | .c => .cc a
  | .po => .cpo a
  | .pe => .cpe a
  | .p => .cp a
  | .m => .cm a

/-- Rcc (R218). -/
def Instr.returnIf (cond : Cond) : Instr :=
  match cond with
  | .nz => .rnz
  | .z => .rz
  | .nc => .rnc
  | .c => .rc
  | .po => .rpo
  | .pe => .rpe
  | .p => .rp
  | .m => .rm

end Sys2Proof
end

