-- ==== Sys2Proof/WellFormed.lean ====
section
/-! DEFINITION. Which byte sequences are one whole instruction, from the lists of R94 and R101. An `Instr` needs no
check of its own: the types of its operands hold exactly the values an encoding can. -/

namespace Sys2Proof

/-- The 23 unmapped opcodes, as R101 lists them. -/
def unmappedOpcodes : List Byte :=
  [0x08#8, 0x10#8, 0x18#8, 0x20#8, 0x27#8, 0x28#8, 0x30#8, 0x38#8, 0xC7#8, 0xCB#8, 0xCF#8, 0xD7#8] ++
  [0xD9#8, 0xDD#8, 0xDF#8, 0xE7#8, 0xED#8, 0xEF#8, 0xF3#8, 0xF7#8, 0xFB#8, 0xFD#8, 0xFF#8]

/-- The opcodes of format F2, length 2, as R94 lists them. -/
def twoByteOpcodes : List Byte :=
  [0x06#8, 0x0E#8, 0x16#8, 0x1E#8, 0x26#8, 0x2E#8, 0x36#8, 0x3E#8] ++
  [0xC6#8, 0xCE#8, 0xD6#8, 0xDE#8, 0xE6#8, 0xEE#8, 0xF6#8, 0xFE#8] ++ [0xD3#8, 0xDB#8]

/-- The opcodes of format F3, length 3, as R94 lists them. -/
def threeByteOpcodes : List Byte :=
  [0x01#8, 0x11#8, 0x21#8, 0x31#8] ++ [0x22#8, 0x2A#8, 0x32#8, 0x3A#8] ++
  [0xC2#8, 0xCA#8, 0xD2#8, 0xDA#8, 0xE2#8, 0xEA#8, 0xF2#8, 0xFA#8] ++ [0xC3#8] ++
  [0xC4#8, 0xCC#8, 0xD4#8, 0xDC#8, 0xE4#8, 0xEC#8, 0xF4#8, 0xFC#8] ++ [0xCD#8]

/-- The length an opcode gives its instruction, none for an unmapped opcode (R94). -/
def lengthOfOpcode (op : Byte) : Option Nat :=
  if op ∈ unmappedOpcodes then none
  else if op ∈ twoByteOpcodes then some 2
  else if op ∈ threeByteOpcodes then some 3
  else some 1

/-- The bytes are one whole instruction: a mapped opcode and exactly its operand bytes (R93, R94, R101). -/
def wellFormedBytes : List Byte → Bool
  | [] => false
  | op :: operands => lengthOfOpcode op == some (operands.length + 1)

end Sys2Proof
end

