-- ==== Sys2Proof/Decode.lean ====
section
/-! DEFINITION. The decoder, written from the opcode fields of R95 and their code tables (R27, R28, R36, R96), and after
it the encoder, written from the opcode map of R100. -/

namespace Sys2Proof

open Sys2Proof.Machine

/-! ### Codes of the opcode fields -/

/-- The 3-bit register code (R27). -/
def operandOfCode (code : Nat) : Operand :=
  match code with
  | 0 => .reg .b
  | 1 => .reg .c
  | 2 => .reg .d
  | 3 => .reg .e
  | 4 => .reg .h
  | 5 => .reg .l
  | 6 => .m
  | _ => .reg .a

/-- The 2-bit pair code in LXI, INX, DCX and DAD (R28). -/
def pairOfCode (code : Nat) : Pair :=
  match code with
  | 0 => .bc
  | 1 => .de
  | 2 => .hl
  | _ => .sp

/-- The 2-bit pair code in PUSH and POP (R28). -/
def stackPairOfCode (code : Nat) : StackPair :=
  match code with
  | 0 => .bc
  | 1 => .de
  | 2 => .hl
  | _ => .psw

/-- The 3-bit condition code (R36). -/
def condOfCode (code : Nat) : Cond :=
  match code with
  | 0 => .nz
  | 1 => .z
  | 2 => .nc
  | 3 => .c
  | 4 => .po
  | 5 => .pe
  | 6 => .p
  | _ => .m

/-- The 3-bit operation code `aaa` (R96). -/
def aluOfCode (code : Nat) : AluOp :=
  match code with
  | 0 => .add
  | 1 => .adc
  | 2 => .sub
  | 3 => .sbb
  | 4 => .ana
  | 5 => .xra
  | 6 => .ora
  | _ => .cmp

/-! ### The opcode byte -/

/-- What an opcode byte is: unmapped, or an instruction of format F1, F2 or F3 (R93, R97). -/
inductive OpcodeForm where
  | unmapped
  | oneByte (i : Instr)
  | withByte (i : Byte → Instr)
  | withWord (i : Word → Instr)

/-- Quadrant 00 by `bits[2:0]` and `bits[5:3]` (R95). -/
def quadrant00 (y z : Nat) : OpcodeForm :=
  match z with
  | 0 => if y = 0 then .oneByte .nop else .unmapped
  | 1 => if y % 2 = 0 then .withWord (Instr.lxi (pairOfCode (y / 2))) else .oneByte (Instr.dad (pairOfCode (y / 2)))
  | 2 =>
    match y with
    | 0 => .oneByte (Instr.stax .bc)
    | 1 => .oneByte (Instr.ldax .bc)
    | 2 => .oneByte (Instr.stax .de)
    | 3 => .oneByte (Instr.ldax .de)
    | 4 => .withWord .shld
    | 5 => .withWord .lhld
    | 6 => .withWord .sta
    | _ => .withWord .lda
  | 3 => if y % 2 = 0 then .oneByte (Instr.inx (pairOfCode (y / 2))) else .oneByte (Instr.dcx (pairOfCode (y / 2)))
  | 4 => .oneByte (Instr.inr (operandOfCode y))
  | 5 => .oneByte (Instr.dcr (operandOfCode y))
  | 6 => .withByte (Instr.mvi (operandOfCode y))
  | _ =>
    match y with
    | 0 => .oneByte .rlc
    | 1 => .oneByte .rrc
    | 2 => .oneByte .ral
    | 3 => .oneByte .rar
    | 4 => .unmapped
    | 5 => .oneByte .cma
    | 6 => .oneByte .stc
    | _ => .oneByte .cmc

/-- Quadrant 01: MOV by `ddd` and `sss`, but for 01 110 110 = HLT (R95). -/
def quadrant01 (y z : Nat) : OpcodeForm :=
  match operandOfCode y, operandOfCode z with
  | .m, .m => .oneByte .hlt
  | .m, .reg src => .oneByte (Instr.movToM src)
  | .reg dst, .m => .oneByte (Instr.movFromM dst)
  | .reg dst, .reg src => .oneByte (Instr.mov dst src)

/-- Quadrant 11 by `bits[2:0]` and `bits[5:3]` (R95). -/
def quadrant11 (y z : Nat) : OpcodeForm :=
  match z with
  | 0 => .oneByte (Instr.returnIf (condOfCode y))
  | 1 =>
    match y with
    | 1 => .oneByte .ret
    | 3 => .unmapped
    | 5 => .oneByte .pchl
    | 7 => .oneByte .sphl
    | _ => .oneByte (Instr.pop (stackPairOfCode (y / 2)))
  | 2 => .withWord (Instr.jumpIf (condOfCode y))
  | 3 =>
    match y with
    | 0 => .withWord .jmp
    | 2 => .withByte .outPort
    | 3 => .withByte .inPort
    | 4 => .oneByte .xthl
    | 5 => .oneByte .xchg
    | _ => .unmapped
  | 4 => .withWord (Instr.callIf (condOfCode y))
  | 5 =>
    match y with
    | 1 => .withWord .call
    | 3 => .unmapped
    | 5 => .unmapped
    | 7 => .unmapped
    | _ => .oneByte (Instr.push (stackPairOfCode (y / 2)))
  | 6 => .withByte (Instr.aluImm (aluOfCode y))
  | _ => .unmapped

/-- The opcode byte decoded: `bits[7:6]` select a quadrant, `bits[5:3]` and `bits[2:0]` are its fields (R95). -/
def opcodeForm (op : Byte) : OpcodeForm :=
  match bits op 7 6 with
  | 0 => quadrant00 (bits op 5 3) (bits op 2 0)
  | 1 => quadrant01 (bits op 5 3) (bits op 2 0)
  | 2 => .oneByte (Instr.alu (aluOfCode (bits op 5 3)) (operandOfCode (bits op 2 0)))
  | _ => quadrant11 (bits op 5 3) (bits op 2 0)

/-! ### The decoder -/

/-- Why bytes are not an instruction. -/
inductive DecodeError where
  /-- There is no opcode byte. -/
  | empty
  /-- The opcode is unmapped (R101). -/
  | unmapped (opcode : Byte)
  /-- The operand bytes of this opcode are not all there. -/
  | truncated (opcode : Byte)
deriving DecidableEq, Repr

/-- The instruction at the front of the bytes, and the bytes after it. A 16-bit immediate has its low byte first
(R65, R93, R103). -/
def decode (bytes : List Byte) : Except DecodeError (Instr × List Byte) :=
  match bytes with
  | [] => .error .empty
  | op :: rest =>
    match opcodeForm op, rest with
    | .unmapped, _ => .error (.unmapped op)
    | .oneByte i, rest => .ok (i, rest)
    | .withByte i, v :: rest => .ok (i v, rest)
    | .withWord i, lo :: hi :: rest => .ok (i (mkWord hi lo), rest)
    | .withByte _, [] => .error (.truncated op)
    | .withWord _, _ => .error (.truncated op)

/-- The bytes of an instruction of the opcode table, the first lowest in `w` and every bit from `nbits` on zero: three
bytes, the longest instruction. -/
def tableBytes (nbits w : Nat) : List Byte :=
  let v := w % 2 ^ nbits
  [BitVec.ofNat 8 v, BitVec.ofNat 8 (v / 256), BitVec.ofNat 8 (v / 65536)]

/-- The instruction the decoder reads from an opcode-table word. -/
def decodeTableWord (nbits w : Nat) : Option Instr :=
  match decode (tableBytes nbits w) with
  | .ok (i, _) => some i
  | .error _ => none

/-! ### The encoder -/

/-- The bytes of an instruction at ascending addresses: the opcode of R100, then the immediate, low byte first (R65,
R93). -/
def encode (i : Instr) : List Byte :=
  match i with
  | .nop => [0x00#8]
  | .lxiB v => [0x01#8, loByte v, hiByte v]
  | .staxB => [0x02#8]
  | .inxB => [0x03#8]
  | .inrB => [0x04#8]
  | .dcrB => [0x05#8]
  | .mviB v => [0x06#8, v]
  | .rlc => [0x07#8]
  | .dadB => [0x09#8]
  | .ldaxB => [0x0A#8]
  | .dcxB => [0x0B#8]
  | .inrC => [0x0C#8]
  | .dcrC => [0x0D#8]
  | .mviC v => [0x0E#8, v]
  | .rrc => [0x0F#8]
  | .lxiD v => [0x11#8, loByte v, hiByte v]
  | .staxD => [0x12#8]
  | .inxD => [0x13#8]
  | .inrD => [0x14#8]
  | .dcrD => [0x15#8]
  | .mviD v => [0x16#8, v]
  | .ral => [0x17#8]
  | .dadD => [0x19#8]
  | .ldaxD => [0x1A#8]
  | .dcxD => [0x1B#8]
  | .inrE => [0x1C#8]
  | .dcrE => [0x1D#8]
  | .mviE v => [0x1E#8, v]
  | .rar => [0x1F#8]
  | .lxiH v => [0x21#8, loByte v, hiByte v]
  | .shld v => [0x22#8, loByte v, hiByte v]
  | .inxH => [0x23#8]
  | .inrH => [0x24#8]
  | .dcrH => [0x25#8]
  | .mviH v => [0x26#8, v]
  | .dadH => [0x29#8]
  | .lhld v => [0x2A#8, loByte v, hiByte v]
  | .dcxH => [0x2B#8]
  | .inrL => [0x2C#8]
  | .dcrL => [0x2D#8]
  | .mviL v => [0x2E#8, v]
  | .cma => [0x2F#8]
  | .lxiSp v => [0x31#8, loByte v, hiByte v]
  | .sta v => [0x32#8, loByte v, hiByte v]
  | .inxSp => [0x33#8]
  | .inrM => [0x34#8]
  | .dcrM => [0x35#8]
  | .mviM v => [0x36#8, v]
  | .stc => [0x37#8]
  | .dadSp => [0x39#8]
  | .lda v => [0x3A#8, loByte v, hiByte v]
  | .dcxSp => [0x3B#8]
  | .inrA => [0x3C#8]
  | .dcrA => [0x3D#8]
  | .mviA v => [0x3E#8, v]
  | .cmc => [0x3F#8]
  | .movBB => [0x40#8]
  | .movBC => [0x41#8]
  | .movBD => [0x42#8]
  | .movBE => [0x43#8]
  | .movBH => [0x44#8]
  | .movBL => [0x45#8]
  | .movBM => [0x46#8]
  | .movBA => [0x47#8]
  | .movCB => [0x48#8]
  | .movCC => [0x49#8]
  | .movCD => [0x4A#8]
  | .movCE => [0x4B#8]
  | .movCH => [0x4C#8]
  | .movCL => [0x4D#8]
  | .movCM => [0x4E#8]
  | .movCA => [0x4F#8]
  | .movDB => [0x50#8]
  | .movDC => [0x51#8]
  | .movDD => [0x52#8]
  | .movDE => [0x53#8]
  | .movDH => [0x54#8]
  | .movDL => [0x55#8]
  | .movDM => [0x56#8]
  | .movDA => [0x57#8]
  | .movEB => [0x58#8]
  | .movEC => [0x59#8]
  | .movED => [0x5A#8]
  | .movEE => [0x5B#8]
  | .movEH => [0x5C#8]
  | .movEL => [0x5D#8]
  | .movEM => [0x5E#8]
  | .movEA => [0x5F#8]
  | .movHB => [0x60#8]
  | .movHC => [0x61#8]
  | .movHD => [0x62#8]
  | .movHE => [0x63#8]
  | .movHH => [0x64#8]
  | .movHL => [0x65#8]
  | .movHM => [0x66#8]
  | .movHA => [0x67#8]
  | .movLB => [0x68#8]
  | .movLC => [0x69#8]
  | .movLD => [0x6A#8]
  | .movLE => [0x6B#8]
  | .movLH => [0x6C#8]
  | .movLL => [0x6D#8]
  | .movLM => [0x6E#8]
  | .movLA => [0x6F#8]
  | .movMB => [0x70#8]
  | .movMC => [0x71#8]
  | .movMD => [0x72#8]
  | .movME => [0x73#8]
  | .movMH => [0x74#8]
  | .movML => [0x75#8]
  | .hlt => [0x76#8]
  | .movMA => [0x77#8]
  | .movAB => [0x78#8]
  | .movAC => [0x79#8]
  | .movAD => [0x7A#8]
  | .movAE => [0x7B#8]
  | .movAH => [0x7C#8]
  | .movAL => [0x7D#8]
  | .movAM => [0x7E#8]
  | .movAA => [0x7F#8]
  | .addB => [0x80#8]
  | .addC => [0x81#8]
  | .addD => [0x82#8]
  | .addE => [0x83#8]
  | .addH => [0x84#8]
  | .addL => [0x85#8]
  | .addM => [0x86#8]
  | .addA => [0x87#8]
  | .adcB => [0x88#8]
  | .adcC => [0x89#8]
  | .adcD => [0x8A#8]
  | .adcE => [0x8B#8]
  | .adcH => [0x8C#8]
  | .adcL => [0x8D#8]
  | .adcM => [0x8E#8]
  | .adcA => [0x8F#8]
  | .subB => [0x90#8]
  | .subC => [0x91#8]
  | .subD => [0x92#8]
  | .subE => [0x93#8]
  | .subH => [0x94#8]
  | .subL => [0x95#8]
  | .subM => [0x96#8]
  | .subA => [0x97#8]
  | .sbbB => [0x98#8]
  | .sbbC => [0x99#8]
  | .sbbD => [0x9A#8]
  | .sbbE => [0x9B#8]
  | .sbbH => [0x9C#8]
  | .sbbL => [0x9D#8]
  | .sbbM => [0x9E#8]
  | .sbbA => [0x9F#8]
  | .anaB => [0xA0#8]
  | .anaC => [0xA1#8]
  | .anaD => [0xA2#8]
  | .anaE => [0xA3#8]
  | .anaH => [0xA4#8]
  | .anaL => [0xA5#8]
  | .anaM => [0xA6#8]
  | .anaA => [0xA7#8]
  | .xraB => [0xA8#8]
  | .xraC => [0xA9#8]
  | .xraD => [0xAA#8]
  | .xraE => [0xAB#8]
  | .xraH => [0xAC#8]
  | .xraL => [0xAD#8]
  | .xraM => [0xAE#8]
  | .xraA => [0xAF#8]
  | .oraB => [0xB0#8]
  | .oraC => [0xB1#8]
  | .oraD => [0xB2#8]
  | .oraE => [0xB3#8]
  | .oraH => [0xB4#8]
  | .oraL => [0xB5#8]
  | .oraM => [0xB6#8]
  | .oraA => [0xB7#8]
  | .cmpB => [0xB8#8]
  | .cmpC => [0xB9#8]
  | .cmpD => [0xBA#8]
  | .cmpE => [0xBB#8]
  | .cmpH => [0xBC#8]
  | .cmpL => [0xBD#8]
  | .cmpM => [0xBE#8]
  | .cmpA => [0xBF#8]
  | .rnz => [0xC0#8]
  | .popB => [0xC1#8]
  | .jnz v => [0xC2#8, loByte v, hiByte v]
  | .jmp v => [0xC3#8, loByte v, hiByte v]
  | .cnz v => [0xC4#8, loByte v, hiByte v]
  | .pushB => [0xC5#8]
  | .adi v => [0xC6#8, v]
  | .rz => [0xC8#8]
  | .ret => [0xC9#8]
  | .jz v => [0xCA#8, loByte v, hiByte v]
  | .cz v => [0xCC#8, loByte v, hiByte v]
  | .call v => [0xCD#8, loByte v, hiByte v]
  | .aci v => [0xCE#8, v]
  | .rnc => [0xD0#8]
  | .popD => [0xD1#8]
  | .jnc v => [0xD2#8, loByte v, hiByte v]
  | .outPort v => [0xD3#8, v]
  | .cnc v => [0xD4#8, loByte v, hiByte v]
  | .pushD => [0xD5#8]
  | .sui v => [0xD6#8, v]
  | .rc => [0xD8#8]
  | .jc v => [0xDA#8, loByte v, hiByte v]
  | .inPort v => [0xDB#8, v]
  | .cc v => [0xDC#8, loByte v, hiByte v]
  | .sbi v => [0xDE#8, v]
  | .rpo => [0xE0#8]
  | .popH => [0xE1#8]
  | .jpo v => [0xE2#8, loByte v, hiByte v]
  | .xthl => [0xE3#8]
  | .cpo v => [0xE4#8, loByte v, hiByte v]
  | .pushH => [0xE5#8]
  | .ani v => [0xE6#8, v]
  | .rpe => [0xE8#8]
  | .pchl => [0xE9#8]
  | .jpe v => [0xEA#8, loByte v, hiByte v]
  | .xchg => [0xEB#8]
  | .cpe v => [0xEC#8, loByte v, hiByte v]
  | .xri v => [0xEE#8, v]
  | .rp => [0xF0#8]
  | .popPsw => [0xF1#8]
  | .jp v => [0xF2#8, loByte v, hiByte v]
  | .cp v => [0xF4#8, loByte v, hiByte v]
  | .pushPsw => [0xF5#8]
  | .ori v => [0xF6#8, v]
  | .rm => [0xF8#8]
  | .sphl => [0xF9#8]
  | .jm v => [0xFA#8, loByte v, hiByte v]
  | .cm v => [0xFC#8, loByte v, hiByte v]
  | .cpi v => [0xFE#8, v]

end Sys2Proof
end

