-- ==== Sys2Proof/Config.lean ====
section
/-! DEFINITION. What is fixed for a machine and is not state (R6, R20): the sizes of its two address spaces, and the
form of its three named parameters. The values the parameters take stand in Sys2Proof/Machine/Parameters.lean. No
behaviour of this machine is left as a free value (93_implementation_defined.md section 1), so no opaque constant
stands here. -/

namespace Sys2Proof

/-- `N`, the size of memory in bytes (R6, R60). -/
def memorySize : Nat := 65536

/-- The number of 8-bit port numbers (R63). -/
def portNumbers : Nat := 256

/-- The named parameters of R6. -/
structure Config where
  /-- `IN_PORTS`, the defined input port numbers. -/
  inPorts : List Byte
  /-- `OUT_PORTS`, the defined output port numbers. -/
  outPorts : List Byte
  /-- `INRDCR_WRITE_CY`, whether INR and DCR write the carry flag. -/
  inrDcrWriteCy : Bool
deriving DecidableEq, Repr

end Sys2Proof
end

