-- ==== Sys2Proof/Machine/State.lean ====
section
/-! DEFINITION. The state of the machine as plain data, the faults, the refusals, and the state at power-on
(10_state.md, R250). -/

namespace Sys2Proof.Machine

/-- The four flags, the only storage of F (R32). -/
structure Flags where
  /-- Sign, bit 7 of the image. -/
  s : Bool
  /-- Zero, bit 6 of the image. -/
  z : Bool
  /-- Parity, bit 2 of the image. -/
  p : Bool
  /-- Carry, bit 0 of the image. -/
  cy : Bool
deriving DecidableEq, Repr

/-- The fault kinds of R250 that this hardware can raise (R254 says the fifth kind never is), with the information each
carries. An instruction's fault is a NEXT state whose run state records it (R256, log 2), so `step` never answers
`fault`; host operations fail with the last two. -/
inductive Fault where
  /-- Recorded by the decode step for an unmapped opcode (R251). Safe: the machine stops there, as the spec says. -/
  | invalidOpcode (address : Word) (opcode : Byte)
  /-- Recorded by IN and OUT for an undefined port number (R252). Safe: the machine stops there, as the spec says. -/
  | invalidPort (address : Word) (port : Byte)
  /-- Answered by the host operations peek, poke and load (R253, R263, R267). Safe: the call fails, nothing changes. -/
  | outOfBounds (address : Int)
  /-- Answered by the host operation load (R255). Safe: the call fails, nothing changes. -/
  | programTooLarge
deriving DecidableEq, Repr

/-- Reasons an instruction has no meaning here. -/
inductive Refusal where
  /-- Raised by an arm of exec that has no meaning yet. Safe. No arm raises it: every instruction has its meaning. -/
  | notModelled (mnemonic : String)
deriving DecidableEq, Repr

/-- The run state (R39, R41). -/
inductive RunState where
  | running
  | halted
  | faulted (f : Fault)
deriving DecidableEq, Repr

/-- Byte cells by number, in one canonical form (Machine/Ops.lean, Cells.wf): the memory and the port registers. -/
abbrev Cells := List Host.Cell

/-- The complete state (R20). -/
structure State where
  /-- The accumulator (R22). -/
  a : Byte
  b : Byte
  c : Byte
  d : Byte
  e : Byte
  h : Byte
  l : Byte
  /-- Scratch, high byte of the last 16-bit immediate (R25). -/
  w : Byte
  /-- Scratch, low byte of the last 16-bit immediate (R25). -/
  z : Byte
  /-- Program counter (R29). -/
  pc : Word
  /-- Stack pointer, at the most recently pushed byte (R30). -/
  sp : Word
  /-- Instruction register, the last opcode fetched (R31). -/
  ir : Byte
  /-- The flags register F (R32). -/
  flags : Flags
  /-- The input port registers (R38). -/
  inp : Cells
  /-- The output port registers (R38). -/
  outp : Cells
  /-- Running, Halted or Faulted (R41). -/
  run : RunState
  /-- The memory array (R60). -/
  mem : Cells
deriving DecidableEq, Repr

/-- The outcome of an instruction or a step. -/
abbrev Result := Host.Outcome State Fault Refusal

/-- The state at power-on, which is the state after reset with zero-filled memory (R46, R281; log 3). -/
def State.reset : State :=
  { a := 0x00#8, b := 0x00#8, c := 0x00#8, d := 0x00#8, e := 0x00#8, h := 0x00#8, l := 0x00#8,
    w := 0x00#8, z := 0x00#8, pc := 0x0000#16, sp := 0x0000#16, ir := 0x00#8,
    flags := { s := false, z := false, p := false, cy := false },
    inp := [], outp := [], run := .running, mem := [] }

end Sys2Proof.Machine
end

