-- ==== Sys2Proof/Machine/Ops.lean ====
section
/-! DEFINITION. The named operations over memory, ports, registers, stack and run state (R9, R10, R11, R13, R23, R30). -/

namespace Sys2Proof.Machine

/-! ### Byte cells: memory and the port registers -/

/-- What a cell that is not listed holds: memory is zero-filled at construction and the port registers are cleared
(R46, R60, R281). -/
def unlisted : Byte := 0x00#8

/-- The canonical form: numbers strictly rising and in range, and no cell listed that holds the unlisted value. -/
abbrev Cells.wf (size : Nat) (m : Cells) : Prop :=
  m.Pairwise (fun p q => p.1 < q.1) ∧ ∀ p ∈ m, p.1 < size ∧ p.2 ≠ unlisted

/-- The byte in cell `n`. -/
def Cells.read : Cells → Nat → Byte
  | [], _ => unlisted
  | (k, v) :: rest, n => if k = n then v else Cells.read rest n

/-- The cells without cell `n`. -/
def Cells.erase : Cells → Nat → Cells
  | [], _ => []
  | (k, v) :: rest, n => if k = n then Cells.erase rest n else (k, v) :: Cells.erase rest n

/-- The cells with cell `n` listed, before the first greater number. -/
def Cells.insert : Cells → Nat → Byte → Cells
  | [], n, v => [(n, v)]
  | (k, u) :: rest, n, v => if n < k then (n, v) :: (k, u) :: rest else (k, u) :: Cells.insert rest n v

/-- The cells after `v` is stored in cell `n`. -/
def Cells.write (m : Cells) (n : Nat) (v : Byte) : Cells :=
  if v = unlisted then Cells.erase m n else Cells.insert (Cells.erase m n) n v

/-- The canonical form of memory (R60). -/
abbrev Memory.wf (m : Cells) : Prop := Cells.wf memorySize m

/-- The canonical form of a set of port registers: only defined ports have one (R38). -/
abbrev Ports.wf (defined : List Byte) (m : Cells) : Prop :=
  Cells.wf portNumbers m ∧ ∀ p ∈ m, BitVec.ofNat 8 p.1 ∈ defined

/-! ### Memory -/

/-- `MemRead(a, 1)` (R10, R61). -/
def readByte (a : Word) (s : State) : Byte := Cells.read s.mem a.toNat

/-- `MemWrite(a, 1, v)` (R10, R61). -/
def writeByte (a : Word) (v : Byte) (s : State) : State := { s with mem := Cells.write s.mem a.toNat v }

/-- `MemRead(a, 2)`: low byte at `a`, high byte at `u16(a + 1)` (R10, R66). -/
def readWord (a : Word) (s : State) : Word := mkWord (readByte (a + 1#16) s) (readByte a s)

/-- `MemWrite(a, 2, v)`: low byte to `a`, then high byte to `u16(a + 1)` (R10, R66, R69). -/
def writeWord (a : Word) (v : Word) (s : State) : State :=
  writeByte (a + 1#16) (hiByte v) (writeByte a (loByte v) s)

/-! ### Registers and pairs -/

/-- The value of a general register (R21). -/
def getReg (r : Reg) (s : State) : Byte :=
  match r with
  | .b => s.b
  | .c => s.c
  | .d => s.d
  | .e => s.e
  | .h => s.h
  | .l => s.l
  | .a => s.a

/-- A general register assigned (R21). -/
def setReg (r : Reg) (v : Byte) (s : State) : State :=
  match r with
  | .b => { s with b := v }
  | .c => { s with c := v }
  | .d => { s with d := v }
  | .e => { s with e := v }
  | .h => { s with h := v }
  | .l => { s with l := v }
  | .a => { s with a := v }

/-- `rp[p]` as LXI, INX, DCX and DAD read it: the first-named register is the upper half (R23, R24, R28). -/
def getPair (p : Pair) (s : State) : Word :=
  match p with
  | .bc => mkWord s.b s.c
  | .de => mkWord s.d s.e
  | .hl => mkWord s.h s.l
  | .sp => s.sp

/-- `rp[p] <- v`: both halves are written (R23, R24, R28). -/
def setPair (p : Pair) (v : Word) (s : State) : State :=
  match p with
  | .bc => { s with b := hiByte v, c := loByte v }
  | .de => { s with d := hiByte v, e := loByte v }
  | .hl => { s with h := hiByte v, l := loByte v }
  | .sp => { s with sp := v }

/-- `H : L`, the pointer of M (R26). -/
def hl (s : State) : Word := getPair .hl s

/-! ### Fetch -/

/-- The bytes at PC and the two addresses after it, modulo 65536: as many as the longest instruction has (R65, R93). -/
def fetchBytes (s : State) : List Byte := [readByte s.pc s, readByte (s.pc + 1#16) s, readByte (s.pc + 2#16) s]

/-- `IR <- Mem[PC]; PC <- u16(PC + 1)`, the opcode fetch (R11, R90). -/
def fetchOpcode (s : State) : State := { s with ir := readByte s.pc s, pc := s.pc + 1#16 }

/-- What `fetch8` of an operand byte changes: PC (R11, R29). Its value is the instruction's operand (log 5). -/
def takeByte (s : State) : State := { s with pc := s.pc + 1#16 }

/-- What `fetch16` of the operand `v` changes: PC, and W : Z holds `v` (R11, R25). -/
def takeWord (v : Word) (s : State) : State := { s with pc := s.pc + 2#16, w := hiByte v, z := loByte v }

/-- The address of the opcode, `a0`, in the state right after the opcode fetch: `u16(PC - 1)` (R90). -/
def opcodeAddress (s : State) : Word := s.pc - 1#16

/-! ### Stack -/

/-- `push8(v)`: SP is decremented, then the byte is stored (R11, R30). -/
def push8 (v : Byte) (s : State) : State := writeByte (s.sp - 1#16) v { s with sp := s.sp - 1#16 }

/-- The byte `pop8()` loads (R11). -/
def popValue (s : State) : Byte := readByte s.sp s

/-- What `pop8()` changes: SP is incremented after the load (R11, R30). -/
def popped (s : State) : State := { s with sp := s.sp + 1#16 }

/-- A word pushed, high byte first (R67, R210). -/
def pushWord (v : Word) (s : State) : State := push8 (loByte v) (push8 (hiByte v) s)

/-- The word two pops load, low byte first (R67, R210). -/
def popWordValue (s : State) : Word := mkWord (popValue (popped s)) (popValue s)

/-- What popping a word changes: SP (R67, R210). -/
def poppedWord (s : State) : State := popped (popped s)

/-! ### Ports -/

/-- The input port register `INP[p]` (R38). -/
def inputPort (p : Byte) (s : State) : Byte := Cells.read s.inp p.toNat

/-- `INP[p] <- v`, done by the host only (R38, R268). -/
def setInputPort (p v : Byte) (s : State) : State := { s with inp := Cells.write s.inp p.toNat v }

/-- The output port register `OUTP[p]` (R38). -/
def outputPort (p : Byte) (s : State) : Byte := Cells.read s.outp p.toNat

/-- `OUTP[p] <- v` (R38, R231). -/
def setOutputPort (p v : Byte) (s : State) : State := { s with outp := Cells.write s.outp p.toNat v }

/-! ### Run state: faults, halt, reset -/

/-- `raise Kind(info)`: the run state records the fault; nothing is saved anywhere, no register, flag or cell changes,
and what the instruction did before stays done (R13, R256, R274). -/
def raiseFault (f : Fault) (s : State) : State := { s with run := .faulted f }

/-- The halt flag is set (R39, R232). -/
def halt (s : State) : State := { s with run := .halted }

/-- `reset`, the only exit from Halted and Faulted: every register, flag and port register is cleared, the run state is
Running, memory is untouched (R265, R280). -/
def resetMachine (s : State) : State := { State.reset with mem := s.mem }

end Sys2Proof.Machine
end

