-- ==== Sys2Proof/Machine/Flags.lean ====
section
/-! DEFINITION. Every flag computation: Z, S, P and the carries (R12, R33, R34), the conditions (R36), and the 8-bit
image of F (R32). -/

namespace Sys2Proof.Machine

/-- `parity(v)`: 1 iff the number of 1 bits is even (R12, R33). -/
def parity (v : Byte) : Bool := popcount v % 2 == 0

/-- `setZSP(res)`, with the carry kept (R12, R33). -/
def setZSP (res : Byte) (f : Flags) : Flags :=
  { f with z := res == 0x00#8, s := res.getLsbD 7, p := parity res }

/-- All four flags from an 8-bit result and a carry (R34, rows 1 to 5). -/
def resultFlags (res : Byte) (cy : Bool) (f : Flags) : Flags := { setZSP res f with cy := cy }

/-- The carry flag as the number 0 or 1. -/
def carryIn (s : State) : Nat := s.flags.cy.toNat

/-- The carry flag assigned, Z, S and P kept (R34). -/
def setCarry (cy : Bool) (s : State) : State := { s with flags := { s.flags with cy := cy } }

/-- The carry of an 8-bit addition: the true sum is above 255 (R33, R121). -/
def addCarry (t : Nat) : Bool := decide (255 < t)

/-- The borrow of an 8-bit subtraction: the true difference is below 0 (R33, R121). -/
def borrow (t : Int) : Bool := decide (t < 0)

/-- The carry of a 16-bit addition: the true sum is above 65535 (R138). -/
def addCarry16 (t : Nat) : Bool := decide (65535 < t)

/-- The carry after INR (DCR): `wrapped` where the parameter says these instructions write it, else unchanged
(R34; 92_eei_decisions.md D5). -/
def stepCarry (c : Config) (wrapped : Bool) (f : Flags) : Bool := if c.inrDcrWriteCy then wrapped else f.cy

/-- `cond(ccc)` (R36). -/
def condHolds (cond : Cond) (f : Flags) : Bool :=
  match cond with
  | .nz => !f.z
  | .z => f.z
  | .nc => !f.cy
  | .c => f.cy
  | .po => !f.p
  | .pe => f.p
  | .p => !f.s
  | .m => f.s

/-- The 8-bit image of F: S, Z, 0, 0, 0, P, 0, CY from bit 7 down (R32). -/
def flagsImage (f : Flags) : Byte :=
  BitVec.ofNat 8 (f.s.toNat * 128 + f.z.toNat * 64 + f.p.toNat * 4 + f.cy.toNat)

/-- Writing the image: bits 7, 6, 2 and 0 are taken, the others discarded (R32). -/
def flagsOfImage (v : Byte) : Flags :=
  { s := v.getLsbD 7, z := v.getLsbD 6, p := v.getLsbD 2, cy := v.getLsbD 0 }

end Sys2Proof.Machine
end

