-- ==== Sys2Proof/Machine/Operands.lean ====
section
/-! DEFINITION. The operand forms (R103): register-direct and M (R26, R27), BC and DE indirect (R28, R179), and the
pairs of PUSH and POP, PSW among them (R28, R37). -/

namespace Sys2Proof.Machine

/-- `x[c]`: a register's value, or the byte at `H : L` (R26, R27). -/
def readOperand (o : Operand) (s : State) : Byte :=
  match o with
  | .reg r => getReg r s
  | .m => readByte (hl s) s

/-- `x[c] <- v` (R26, R27). -/
def writeOperand (o : Operand) (v : Byte) (s : State) : State :=
  match o with
  | .reg r => setReg r v s
  | .m => writeByte (hl s) v s

/-- The address LDAX and STAX use (R28, R179, R180). -/
def indexAddress (p : IndexPair) (s : State) : Word :=
  match p with
  | .bc => getPair .bc s
  | .de => getPair .de s

/-- The word PUSH stores: a pair, or PSW = `A : F` (R28, R37). -/
def stackPairValue (p : StackPair) (s : State) : Word :=
  match p with
  | .bc => getPair .bc s
  | .de => getPair .de s
  | .hl => getPair .hl s
  | .psw => mkWord s.a (flagsImage s.flags)

/-- What POP does with the word it loads: a pair is written, or A and the four flags (R28, R37, R214). -/
def setStackPair (p : StackPair) (v : Word) (s : State) : State :=
  match p with
  | .bc => setPair .bc v s
  | .de => setPair .de v s
  | .hl => setPair .hl v s
  | .psw => { s with a := hiByte v, flags := flagsOfImage (loByte v) }

end Sys2Proof.Machine
end

