-- ==== Sys2Proof/Machine/Parameters.lean ====
section
/-! DEFINITION. The values this hardware's parameters take (R6). -/

namespace Sys2Proof.Machine

/-- The parameters at the defaults of R6 and 92_eei_decisions.md D5, D10 (DESIGN CHOICE, log 1). -/
def parameters : Config :=
  { inPorts := [0x01#8, 0x02#8], outPorts := [0x03#8, 0x04#8], inrDcrWriteCy := true }

end Sys2Proof.Machine
end

