-- ==== Sys2Proof/Machine/Arithmetic.lean ====
section
/-! DEFINITION. The arithmetic instructions (40_arithmetic.md, R120 to R138): the shared operations, then one meaning
per instruction. A meaning starts in the state right after the opcode fetch (R90). -/

namespace Sys2Proof.Machine

/-- An 8-bit result goes to A and all four flags are recomputed from it and the carry (R33, R34). -/
def accumulate (res : Byte) (cy : Bool) (s : State) : State :=
  { s with a := res, flags := resultFlags res cy s.flags }

/-- `A <- u8(A + v)` (R122). -/
def addByte (v : Byte) (s : State) : State :=
  let t := s.a.toNat + v.toNat
  accumulate (u8 t) (addCarry t) s

/-- `A <- u8(A + v + F.CY)` (R123). -/
def adcByte (v : Byte) (s : State) : State :=
  let t := s.a.toNat + v.toNat + carryIn s
  accumulate (u8 t) (addCarry t) s

/-- `A <- u8(A - v)` (R124). -/
def subByte (v : Byte) (s : State) : State :=
  let t : Int := s.a.toNat - v.toNat
  accumulate (u8 t) (borrow t) s

/-- `A <- u8(A - v - F.CY)` (R125). -/
def sbbByte (v : Byte) (s : State) : State :=
  let t : Int := s.a.toNat - v.toNat - carryIn s
  accumulate (u8 t) (borrow t) s

/-- The flags of `A - v`, the difference discarded (R130). -/
def cmpByte (v : Byte) (s : State) : State :=
  let t : Int := s.a.toNat - v.toNat
  { s with flags := resultFlags (u8 t) (borrow t) s.flags }

/-- INR: the operand plus one, Z, S, P from the result, CY on the wrap from 0xFF (R132, R133, R34). -/
def incrementOperand (c : Config) (o : Operand) (s : State) : State :=
  let old := readOperand o s
  let t := writeOperand o (old + 1#8) s
  { t with flags := setZSP (old + 1#8) { s.flags with cy := stepCarry c (old == 0xFF#8) s.flags } }

/-- DCR: the operand minus one, Z, S, P from the result, CY on the wrap from 0x00 (R134, R135, R34). -/
def decrementOperand (c : Config) (o : Operand) (s : State) : State :=
  let old := readOperand o s
  let t := writeOperand o (old - 1#8) s
  { t with flags := setZSP (old - 1#8) { s.flags with cy := stepCarry c (old == 0x00#8) s.flags } }

/-- `rp <- u16(rp + 1)`, no flag (R136). -/
def incrementPair (p : Pair) (s : State) : State := setPair p (getPair p s + 1#16) s

/-- `rp <- u16(rp - 1)`, no flag (R137). -/
def decrementPair (p : Pair) (s : State) : State := setPair p (getPair p s - 1#16) s

/-- `HL <- u16(HL + rp)`, CY only (R138). -/
def addPair (p : Pair) (s : State) : State :=
  let t := (hl s).toNat + (getPair p s).toNat
  setCarry (addCarry16 t) (setPair .hl (u16 t) s)

/-! ### The meanings -/

/-- ADD B (R122). -/
def execAddB (s : State) : Result := .next (addByte (readOperand (.reg .b) s) s)

/-- ADD C (R122). -/
def execAddC (s : State) : Result := .next (addByte (readOperand (.reg .c) s) s)

/-- ADD D (R122). -/
def execAddD (s : State) : Result := .next (addByte (readOperand (.reg .d) s) s)

/-- ADD E (R122). -/
def execAddE (s : State) : Result := .next (addByte (readOperand (.reg .e) s) s)

/-- ADD H (R122). -/
def execAddH (s : State) : Result := .next (addByte (readOperand (.reg .h) s) s)

/-- ADD L (R122). -/
def execAddL (s : State) : Result := .next (addByte (readOperand (.reg .l) s) s)

/-- ADD M (R122). -/
def execAddM (s : State) : Result := .next (addByte (readOperand .m s) s)

/-- ADD A (R122). -/
def execAddA (s : State) : Result := .next (addByte (readOperand (.reg .a) s) s)

/-- ADC B (R123). -/
def execAdcB (s : State) : Result := .next (adcByte (readOperand (.reg .b) s) s)

/-- ADC C (R123). -/
def execAdcC (s : State) : Result := .next (adcByte (readOperand (.reg .c) s) s)

/-- ADC D (R123). -/
def execAdcD (s : State) : Result := .next (adcByte (readOperand (.reg .d) s) s)

/-- ADC E (R123). -/
def execAdcE (s : State) : Result := .next (adcByte (readOperand (.reg .e) s) s)

/-- ADC H (R123). -/
def execAdcH (s : State) : Result := .next (adcByte (readOperand (.reg .h) s) s)

/-- ADC L (R123). -/
def execAdcL (s : State) : Result := .next (adcByte (readOperand (.reg .l) s) s)

/-- ADC M (R123). -/
def execAdcM (s : State) : Result := .next (adcByte (readOperand .m s) s)

/-- ADC A (R123). -/
def execAdcA (s : State) : Result := .next (adcByte (readOperand (.reg .a) s) s)

/-- SUB B (R124). -/
def execSubB (s : State) : Result := .next (subByte (readOperand (.reg .b) s) s)

/-- SUB C (R124). -/
def execSubC (s : State) : Result := .next (subByte (readOperand (.reg .c) s) s)

/-- SUB D (R124). -/
def execSubD (s : State) : Result := .next (subByte (readOperand (.reg .d) s) s)

/-- SUB E (R124). -/
def execSubE (s : State) : Result := .next (subByte (readOperand (.reg .e) s) s)

/-- SUB H (R124). -/
def execSubH (s : State) : Result := .next (subByte (readOperand (.reg .h) s) s)

/-- SUB L (R124). -/
def execSubL (s : State) : Result := .next (subByte (readOperand (.reg .l) s) s)

/-- SUB M (R124). -/
def execSubM (s : State) : Result := .next (subByte (readOperand .m s) s)

/-- SUB A (R124). -/
def execSubA (s : State) : Result := .next (subByte (readOperand (.reg .a) s) s)

/-- SBB B (R125). -/
def execSbbB (s : State) : Result := .next (sbbByte (readOperand (.reg .b) s) s)

/-- SBB C (R125). -/
def execSbbC (s : State) : Result := .next (sbbByte (readOperand (.reg .c) s) s)

/-- SBB D (R125). -/
def execSbbD (s : State) : Result := .next (sbbByte (readOperand (.reg .d) s) s)

/-- SBB E (R125). -/
def execSbbE (s : State) : Result := .next (sbbByte (readOperand (.reg .e) s) s)

/-- SBB H (R125). -/
def execSbbH (s : State) : Result := .next (sbbByte (readOperand (.reg .h) s) s)

/-- SBB L (R125). -/
def execSbbL (s : State) : Result := .next (sbbByte (readOperand (.reg .l) s) s)

/-- SBB M (R125). -/
def execSbbM (s : State) : Result := .next (sbbByte (readOperand .m s) s)

/-- SBB A (R125). -/
def execSbbA (s : State) : Result := .next (sbbByte (readOperand (.reg .a) s) s)

/-- ADI d8 (R126). -/
def execAdi (v : Byte) (s : State) : Result := .next (addByte v (takeByte s))

/-- ACI d8 (R127). -/
def execAci (v : Byte) (s : State) : Result := .next (adcByte v (takeByte s))

/-- SUI d8 (R128). -/
def execSui (v : Byte) (s : State) : Result := .next (subByte v (takeByte s))

/-- SBI d8 (R129). -/
def execSbi (v : Byte) (s : State) : Result := .next (sbbByte v (takeByte s))

/-- CMP B (R130). -/
def execCmpB (s : State) : Result := .next (cmpByte (readOperand (.reg .b) s) s)

/-- CMP C (R130). -/
def execCmpC (s : State) : Result := .next (cmpByte (readOperand (.reg .c) s) s)

/-- CMP D (R130). -/
def execCmpD (s : State) : Result := .next (cmpByte (readOperand (.reg .d) s) s)

/-- CMP E (R130). -/
def execCmpE (s : State) : Result := .next (cmpByte (readOperand (.reg .e) s) s)

/-- CMP H (R130). -/
def execCmpH (s : State) : Result := .next (cmpByte (readOperand (.reg .h) s) s)

/-- CMP L (R130). -/
def execCmpL (s : State) : Result := .next (cmpByte (readOperand (.reg .l) s) s)

/-- CMP M (R130). -/
def execCmpM (s : State) : Result := .next (cmpByte (readOperand .m s) s)

/-- CMP A (R130). -/
def execCmpA (s : State) : Result := .next (cmpByte (readOperand (.reg .a) s) s)

/-- CPI d8 (R131). -/
def execCpi (v : Byte) (s : State) : Result := .next (cmpByte v (takeByte s))

/-- INR B (R132). -/
def execInrB (s : State) : Result := .next (incrementOperand parameters (.reg .b) s)

/-- INR C (R132). -/
def execInrC (s : State) : Result := .next (incrementOperand parameters (.reg .c) s)

/-- INR D (R132). -/
def execInrD (s : State) : Result := .next (incrementOperand parameters (.reg .d) s)

/-- INR E (R132). -/
def execInrE (s : State) : Result := .next (incrementOperand parameters (.reg .e) s)

/-- INR H (R132). -/
def execInrH (s : State) : Result := .next (incrementOperand parameters (.reg .h) s)

/-- INR L (R132). -/
def execInrL (s : State) : Result := .next (incrementOperand parameters (.reg .l) s)

/-- INR A (R132). -/
def execInrA (s : State) : Result := .next (incrementOperand parameters (.reg .a) s)

/-- INR M (R133). -/
def execInrM (s : State) : Result := .next (incrementOperand parameters .m s)

/-- DCR B (R134). -/
def execDcrB (s : State) : Result := .next (decrementOperand parameters (.reg .b) s)

/-- DCR C (R134). -/
def execDcrC (s : State) : Result := .next (decrementOperand parameters (.reg .c) s)

/-- DCR D (R134). -/
def execDcrD (s : State) : Result := .next (decrementOperand parameters (.reg .d) s)

/-- DCR E (R134). -/
def execDcrE (s : State) : Result := .next (decrementOperand parameters (.reg .e) s)

/-- DCR H (R134). -/
def execDcrH (s : State) : Result := .next (decrementOperand parameters (.reg .h) s)

/-- DCR L (R134). -/
def execDcrL (s : State) : Result := .next (decrementOperand parameters (.reg .l) s)

/-- DCR A (R134). -/
def execDcrA (s : State) : Result := .next (decrementOperand parameters (.reg .a) s)

/-- DCR M (R135). -/
def execDcrM (s : State) : Result := .next (decrementOperand parameters .m s)

/-- INX B (R136). -/
def execInxB (s : State) : Result := .next (incrementPair .bc s)

/-- INX D (R136). -/
def execInxD (s : State) : Result := .next (incrementPair .de s)

/-- INX H (R136). -/
def execInxH (s : State) : Result := .next (incrementPair .hl s)

/-- INX SP (R136). -/
def execInxSp (s : State) : Result := .next (incrementPair .sp s)

/-- DCX B (R137). -/
def execDcxB (s : State) : Result := .next (decrementPair .bc s)

/-- DCX D (R137). -/
def execDcxD (s : State) : Result := .next (decrementPair .de s)

/-- DCX H (R137). -/
def execDcxH (s : State) : Result := .next (decrementPair .hl s)

/-- DCX SP (R137). -/
def execDcxSp (s : State) : Result := .next (decrementPair .sp s)

/-- DAD B (R138). -/
def execDadB (s : State) : Result := .next (addPair .bc s)

/-- DAD D (R138). -/
def execDadD (s : State) : Result := .next (addPair .de s)

/-- DAD H (R138). -/
def execDadH (s : State) : Result := .next (addPair .hl s)

/-- DAD SP (R138). -/
def execDadSp (s : State) : Result := .next (addPair .sp s)

end Sys2Proof.Machine
end

