-- ==== Sys2Proof/Machine/Branch.lean ====
section
/-! DEFINITION. The branch instructions (43_branch.md, R200 to R203): the shared operations, then one meaning per
instruction. -/

namespace Sys2Proof.Machine

/-- JMP (R201). -/
def jumpTo (a : Word) (s : State) : State := { takeWord a s with pc := a }

/-- Jcc: both operand bytes are fetched, taken or not (R202). -/
def jumpWhen (cond : Cond) (a : Word) (s : State) : State :=
  if condHolds cond s.flags then jumpTo a s else takeWord a s

/-- PCHL (R203). -/
def jumpToHL (s : State) : State := { s with pc := hl s }

/-! ### The meanings -/

/-- JMP a16 (R201). -/
def execJmp (v : Word) (s : State) : Result := .next (jumpTo v s)

/-- JNZ a16 (R202). -/
def execJnz (v : Word) (s : State) : Result := .next (jumpWhen .nz v s)

/-- JZ a16 (R202). -/
def execJz (v : Word) (s : State) : Result := .next (jumpWhen .z v s)

/-- JNC a16 (R202). -/
def execJnc (v : Word) (s : State) : Result := .next (jumpWhen .nc v s)

/-- JC a16 (R202). -/
def execJc (v : Word) (s : State) : Result := .next (jumpWhen .c v s)

/-- JPO a16 (R202). -/
def execJpo (v : Word) (s : State) : Result := .next (jumpWhen .po v s)

/-- JPE a16 (R202). -/
def execJpe (v : Word) (s : State) : Result := .next (jumpWhen .pe v s)

/-- JP a16 (R202). -/
def execJp (v : Word) (s : State) : Result := .next (jumpWhen .p v s)

/-- JM a16 (R202). -/
def execJm (v : Word) (s : State) : Result := .next (jumpWhen .m v s)

/-- PCHL (R203). -/
def execPchl (s : State) : Result := .next (jumpToHL s)

end Sys2Proof.Machine
end

