-- ==== Sys2Proof/Machine/DataMovement.lean ====
section
/-! DEFINITION. The data-movement instructions (42_data_movement.md, R170 to R183): the shared operations, then one
meaning per instruction. -/

namespace Sys2Proof.Machine

/-- MOV r1,r2 (R171). -/
def copyRegister (dst src : Reg) (s : State) : State := setReg dst (getReg src s) s

/-- MOV r,M: the address is formed from H and L before the write (R172). -/
def loadRegister (dst : Reg) (s : State) : State := setReg dst (readByte (hl s) s) s

/-- MOV M,r (R173). -/
def storeRegister (src : Reg) (s : State) : State := writeByte (hl s) (getReg src s) s

/-- MVI: the immediate is fetched, then written (R174, R175). -/
def loadImmediate (o : Operand) (v : Byte) (s : State) : State := writeOperand o v (takeByte s)

/-- LXI (R176). -/
def loadPairImmediate (p : Pair) (v : Word) (s : State) : State := setPair p v (takeWord v s)

/-- LDA (R177). -/
def loadDirect (a : Word) (s : State) : State := setReg .a (readByte a s) (takeWord a s)

/-- STA (R178). -/
def storeDirect (a : Word) (s : State) : State := writeByte a s.a (takeWord a s)

/-- LDAX (R179). -/
def loadIndexed (p : IndexPair) (s : State) : State := setReg .a (readByte (indexAddress p s) s) s

/-- STAX (R180). -/
def storeIndexed (p : IndexPair) (s : State) : State := writeByte (indexAddress p s) s.a s

/-- LHLD: L from `a`, H from `u16(a + 1)` (R181). -/
def loadHLDirect (a : Word) (s : State) : State := setPair .hl (readWord a s) (takeWord a s)

/-- SHLD: L to `a`, H to `u16(a + 1)` (R182). -/
def storeHLDirect (a : Word) (s : State) : State := writeWord a (hl s) (takeWord a s)

/-- XCHG: all four old values are read before any is written (R183). -/
def exchangeHLDE (s : State) : State := { s with h := s.d, l := s.e, d := s.h, e := s.l }

/-! ### The meanings -/

/-- MOV B,B (R171). -/
def execMovBB (s : State) : Result := .next (copyRegister .b .b s)

/-- MOV B,C (R171). -/
def execMovBC (s : State) : Result := .next (copyRegister .b .c s)

/-- MOV B,D (R171). -/
def execMovBD (s : State) : Result := .next (copyRegister .b .d s)

/-- MOV B,E (R171). -/
def execMovBE (s : State) : Result := .next (copyRegister .b .e s)

/-- MOV B,H (R171). -/
def execMovBH (s : State) : Result := .next (copyRegister .b .h s)

/-- MOV B,L (R171). -/
def execMovBL (s : State) : Result := .next (copyRegister .b .l s)

/-- MOV B,A (R171). -/
def execMovBA (s : State) : Result := .next (copyRegister .b .a s)

/-- MOV C,B (R171). -/
def execMovCB (s : State) : Result := .next (copyRegister .c .b s)

/-- MOV C,C (R171). -/
def execMovCC (s : State) : Result := .next (copyRegister .c .c s)

/-- MOV C,D (R171). -/
def execMovCD (s : State) : Result := .next (copyRegister .c .d s)

/-- MOV C,E (R171). -/
def execMovCE (s : State) : Result := .next (copyRegister .c .e s)

/-- MOV C,H (R171). -/
def execMovCH (s : State) : Result := .next (copyRegister .c .h s)

/-- MOV C,L (R171). -/
def execMovCL (s : State) : Result := .next (copyRegister .c .l s)

/-- MOV C,A (R171). -/
def execMovCA (s : State) : Result := .next (copyRegister .c .a s)

/-- MOV D,B (R171). -/
def execMovDB (s : State) : Result := .next (copyRegister .d .b s)

/-- MOV D,C (R171). -/
def execMovDC (s : State) : Result := .next (copyRegister .d .c s)

/-- MOV D,D (R171). -/
def execMovDD (s : State) : Result := .next (copyRegister .d .d s)

/-- MOV D,E (R171). -/
def execMovDE (s : State) : Result := .next (copyRegister .d .e s)

/-- MOV D,H (R171). -/
def execMovDH (s : State) : Result := .next (copyRegister .d .h s)

/-- MOV D,L (R171). -/
def execMovDL (s : State) : Result := .next (copyRegister .d .l s)

/-- MOV D,A (R171). -/
def execMovDA (s : State) : Result := .next (copyRegister .d .a s)

/-- MOV E,B (R171). -/
def execMovEB (s : State) : Result := .next (copyRegister .e .b s)

/-- MOV E,C (R171). -/
def execMovEC (s : State) : Result := .next (copyRegister .e .c s)

/-- MOV E,D (R171). -/
def execMovED (s : State) : Result := .next (copyRegister .e .d s)

/-- MOV E,E (R171). -/
def execMovEE (s : State) : Result := .next (copyRegister .e .e s)

/-- MOV E,H (R171). -/
def execMovEH (s : State) : Result := .next (copyRegister .e .h s)

/-- MOV E,L (R171). -/
def execMovEL (s : State) : Result := .next (copyRegister .e .l s)

/-- MOV E,A (R171). -/
def execMovEA (s : State) : Result := .next (copyRegister .e .a s)

/-- MOV H,B (R171). -/
def execMovHB (s : State) : Result := .next (copyRegister .h .b s)

/-- MOV H,C (R171). -/
def execMovHC (s : State) : Result := .next (copyRegister .h .c s)

/-- MOV H,D (R171). -/
def execMovHD (s : State) : Result := .next (copyRegister .h .d s)

/-- MOV H,E (R171). -/
def execMovHE (s : State) : Result := .next (copyRegister .h .e s)

/-- MOV H,H (R171). -/
def execMovHH (s : State) : Result := .next (copyRegister .h .h s)

/-- MOV H,L (R171). -/
def execMovHL (s : State) : Result := .next (copyRegister .h .l s)

/-- MOV H,A (R171). -/
def execMovHA (s : State) : Result := .next (copyRegister .h .a s)

/-- MOV L,B (R171). -/
def execMovLB (s : State) : Result := .next (copyRegister .l .b s)

/-- MOV L,C (R171). -/
def execMovLC (s : State) : Result := .next (copyRegister .l .c s)

/-- MOV L,D (R171). -/
def execMovLD (s : State) : Result := .next (copyRegister .l .d s)

/-- MOV L,E (R171). -/
def execMovLE (s : State) : Result := .next (copyRegister .l .e s)

/-- MOV L,H (R171). -/
def execMovLH (s : State) : Result := .next (copyRegister .l .h s)

/-- MOV L,L (R171). -/
def execMovLL (s : State) : Result := .next (copyRegister .l .l s)

/-- MOV L,A (R171). -/
def execMovLA (s : State) : Result := .next (copyRegister .l .a s)

/-- MOV A,B (R171). -/
def execMovAB (s : State) : Result := .next (copyRegister .a .b s)

/-- MOV A,C (R171). -/
def execMovAC (s : State) : Result := .next (copyRegister .a .c s)

/-- MOV A,D (R171). -/
def execMovAD (s : State) : Result := .next (copyRegister .a .d s)

/-- MOV A,E (R171). -/
def execMovAE (s : State) : Result := .next (copyRegister .a .e s)

/-- MOV A,H (R171). -/
def execMovAH (s : State) : Result := .next (copyRegister .a .h s)

/-- MOV A,L (R171). -/
def execMovAL (s : State) : Result := .next (copyRegister .a .l s)

/-- MOV A,A (R171). -/
def execMovAA (s : State) : Result := .next (copyRegister .a .a s)

/-- MOV B,M (R172). -/
def execMovBM (s : State) : Result := .next (loadRegister .b s)

/-- MOV C,M (R172). -/
def execMovCM (s : State) : Result := .next (loadRegister .c s)

/-- MOV D,M (R172). -/
def execMovDM (s : State) : Result := .next (loadRegister .d s)

/-- MOV E,M (R172). -/
def execMovEM (s : State) : Result := .next (loadRegister .e s)

/-- MOV H,M (R172). -/
def execMovHM (s : State) : Result := .next (loadRegister .h s)

/-- MOV L,M (R172). -/
def execMovLM (s : State) : Result := .next (loadRegister .l s)

/-- MOV A,M (R172). -/
def execMovAM (s : State) : Result := .next (loadRegister .a s)

/-- MOV M,B (R173). -/
def execMovMB (s : State) : Result := .next (storeRegister .b s)

/-- MOV M,C (R173). -/
def execMovMC (s : State) : Result := .next (storeRegister .c s)

/-- MOV M,D (R173). -/
def execMovMD (s : State) : Result := .next (storeRegister .d s)

/-- MOV M,E (R173). -/
def execMovME (s : State) : Result := .next (storeRegister .e s)

/-- MOV M,H (R173). -/
def execMovMH (s : State) : Result := .next (storeRegister .h s)

/-- MOV M,L (R173). -/
def execMovML (s : State) : Result := .next (storeRegister .l s)

/-- MOV M,A (R173). -/
def execMovMA (s : State) : Result := .next (storeRegister .a s)

/-- MVI B,d8 (R174). -/
def execMviB (v : Byte) (s : State) : Result := .next (loadImmediate (.reg .b) v s)

/-- MVI C,d8 (R174). -/
def execMviC (v : Byte) (s : State) : Result := .next (loadImmediate (.reg .c) v s)

/-- MVI D,d8 (R174). -/
def execMviD (v : Byte) (s : State) : Result := .next (loadImmediate (.reg .d) v s)

/-- MVI E,d8 (R174). -/
def execMviE (v : Byte) (s : State) : Result := .next (loadImmediate (.reg .e) v s)

/-- MVI H,d8 (R174). -/
def execMviH (v : Byte) (s : State) : Result := .next (loadImmediate (.reg .h) v s)

/-- MVI L,d8 (R174). -/
def execMviL (v : Byte) (s : State) : Result := .next (loadImmediate (.reg .l) v s)

/-- MVI A,d8 (R174). -/
def execMviA (v : Byte) (s : State) : Result := .next (loadImmediate (.reg .a) v s)

/-- MVI M,d8 (R175). -/
def execMviM (v : Byte) (s : State) : Result := .next (loadImmediate .m v s)

/-- LXI B,d16 (R176). -/
def execLxiB (v : Word) (s : State) : Result := .next (loadPairImmediate .bc v s)

/-- LXI D,d16 (R176). -/
def execLxiD (v : Word) (s : State) : Result := .next (loadPairImmediate .de v s)

/-- LXI H,d16 (R176). -/
def execLxiH (v : Word) (s : State) : Result := .next (loadPairImmediate .hl v s)

/-- LXI SP,d16 (R176). -/
def execLxiSp (v : Word) (s : State) : Result := .next (loadPairImmediate .sp v s)

/-- LDA a16 (R177). -/
def execLda (v : Word) (s : State) : Result := .next (loadDirect v s)

/-- STA a16 (R178). -/
def execSta (v : Word) (s : State) : Result := .next (storeDirect v s)

/-- LDAX B (R179). -/
def execLdaxB (s : State) : Result := .next (loadIndexed .bc s)

/-- LDAX D (R179). -/
def execLdaxD (s : State) : Result := .next (loadIndexed .de s)

/-- STAX B (R180). -/
def execStaxB (s : State) : Result := .next (storeIndexed .bc s)

/-- STAX D (R180). -/
def execStaxD (s : State) : Result := .next (storeIndexed .de s)

/-- LHLD a16 (R181). -/
def execLhld (v : Word) (s : State) : Result := .next (loadHLDirect v s)

/-- SHLD a16 (R182). -/
def execShld (v : Word) (s : State) : Result := .next (storeHLDirect v s)

/-- XCHG (R183). -/
def execXchg (s : State) : Result := .next (exchangeHLDE s)

end Sys2Proof.Machine
end

