-- ==== Sys2Proof/Machine/IoControl.lean ====
section
/-! DEFINITION. The I/O-port and machine-control instructions (45_io_control.md, R230 to R233): the shared operations,
then one meaning per instruction. -/

namespace Sys2Proof.Machine

/-- IN: a defined input port is read into A, any other number faults after the port byte is fetched (R230, R252). -/
def inputFrom (c : Config) (p : Byte) (s : State) : State :=
  if p ∈ c.inPorts then setReg .a (inputPort p s) (takeByte s)
  else raiseFault (.invalidPort (opcodeAddress s) p) (takeByte s)

/-- OUT: A goes to a defined output port, any other number faults after the port byte is fetched (R231, R252). -/
def outputTo (c : Config) (p : Byte) (s : State) : State :=
  if p ∈ c.outPorts then setOutputPort p s.a (takeByte s)
  else raiseFault (.invalidPort (opcodeAddress s) p) (takeByte s)

/-! ### The meanings -/

/-- IN p8 (R230). -/
def execInPort (v : Byte) (s : State) : Result := .next (inputFrom parameters v s)

/-- OUT p8 (R231). -/
def execOutPort (v : Byte) (s : State) : Result := .next (outputTo parameters v s)

/-- HLT (R232). -/
def execHlt (s : State) : Result := .next (halt s)

/-- NOP (R233). -/
def execNop (s : State) : Result := .next s

end Sys2Proof.Machine
end

