-- ==== Sys2Proof/Machine/Logic.lean ====
section
/-! DEFINITION. The logic instructions (41_logic.md, R150 to R157): the shared operations, then one meaning per
instruction. -/

namespace Sys2Proof.Machine

/-- `A <- A & v`, CY 0 (R151). -/
def andByte (v : Byte) (s : State) : State := accumulate (s.a &&& v) false s

/-- `A <- A ^ v`, CY 0 (R152). -/
def xorByte (v : Byte) (s : State) : State := accumulate (s.a ^^^ v) false s

/-- `A <- A | v`, CY 0 (R153). -/
def orByte (v : Byte) (s : State) : State := accumulate (s.a ||| v) false s

/-- `A <- 0xFF - A`, no flag (R157). -/
def complementA (s : State) : State := { s with a := 0xFF#8 - s.a }

/-! ### The meanings -/

/-- ANA B (R151). -/
def execAnaB (s : State) : Result := .next (andByte (readOperand (.reg .b) s) s)

/-- ANA C (R151). -/
def execAnaC (s : State) : Result := .next (andByte (readOperand (.reg .c) s) s)

/-- ANA D (R151). -/
def execAnaD (s : State) : Result := .next (andByte (readOperand (.reg .d) s) s)

/-- ANA E (R151). -/
def execAnaE (s : State) : Result := .next (andByte (readOperand (.reg .e) s) s)

/-- ANA H (R151). -/
def execAnaH (s : State) : Result := .next (andByte (readOperand (.reg .h) s) s)

/-- ANA L (R151). -/
def execAnaL (s : State) : Result := .next (andByte (readOperand (.reg .l) s) s)

/-- ANA M (R151). -/
def execAnaM (s : State) : Result := .next (andByte (readOperand .m s) s)

/-- ANA A (R151). -/
def execAnaA (s : State) : Result := .next (andByte (readOperand (.reg .a) s) s)

/-- XRA B (R152). -/
def execXraB (s : State) : Result := .next (xorByte (readOperand (.reg .b) s) s)

/-- XRA C (R152). -/
def execXraC (s : State) : Result := .next (xorByte (readOperand (.reg .c) s) s)

/-- XRA D (R152). -/
def execXraD (s : State) : Result := .next (xorByte (readOperand (.reg .d) s) s)

/-- XRA E (R152). -/
def execXraE (s : State) : Result := .next (xorByte (readOperand (.reg .e) s) s)

/-- XRA H (R152). -/
def execXraH (s : State) : Result := .next (xorByte (readOperand (.reg .h) s) s)

/-- XRA L (R152). -/
def execXraL (s : State) : Result := .next (xorByte (readOperand (.reg .l) s) s)

/-- XRA M (R152). -/
def execXraM (s : State) : Result := .next (xorByte (readOperand .m s) s)

/-- XRA A (R152). -/
def execXraA (s : State) : Result := .next (xorByte (readOperand (.reg .a) s) s)

/-- ORA B (R153). -/
def execOraB (s : State) : Result := .next (orByte (readOperand (.reg .b) s) s)

/-- ORA C (R153). -/
def execOraC (s : State) : Result := .next (orByte (readOperand (.reg .c) s) s)

/-- ORA D (R153). -/
def execOraD (s : State) : Result := .next (orByte (readOperand (.reg .d) s) s)

/-- ORA E (R153). -/
def execOraE (s : State) : Result := .next (orByte (readOperand (.reg .e) s) s)

/-- ORA H (R153). -/
def execOraH (s : State) : Result := .next (orByte (readOperand (.reg .h) s) s)

/-- ORA L (R153). -/
def execOraL (s : State) : Result := .next (orByte (readOperand (.reg .l) s) s)

/-- ORA M (R153). -/
def execOraM (s : State) : Result := .next (orByte (readOperand .m s) s)

/-- ORA A (R153). -/
def execOraA (s : State) : Result := .next (orByte (readOperand (.reg .a) s) s)

/-- ANI d8 (R154). -/
def execAni (v : Byte) (s : State) : Result := .next (andByte v (takeByte s))

/-- XRI d8 (R155). -/
def execXri (v : Byte) (s : State) : Result := .next (xorByte v (takeByte s))

/-- ORI d8 (R156). -/
def execOri (v : Byte) (s : State) : Result := .next (orByte v (takeByte s))

/-- CMA (R157). -/
def execCma (s : State) : Result := .next (complementA s)

end Sys2Proof.Machine
end

