-- ==== Sys2Proof/Machine/RotateFlag.lean ====
section
/-! DEFINITION. The rotate and flag instructions (46_rotate_flag.md, R240 to R246): the shared operations, then one
meaning per instruction. -/

namespace Sys2Proof.Machine

/-- `u8(A << 1) | low`, the bit that left A going to CY; Z, S and P kept (R240, R241, R243). -/
def rotateLeft (low : Bool) (s : State) : State :=
  setCarry (s.a.getLsbD 7) { s with a := s.a <<< 1 ||| (if low then 0x01#8 else 0x00#8) }

/-- `(A >> 1) | (high << 7)`, the bit that left A going to CY; Z, S and P kept (R240, R242, R244). -/
def rotateRight (high : Bool) (s : State) : State :=
  setCarry (s.a.getLsbD 0) { s with a := s.a >>> 1 ||| (if high then 0x80#8 else 0x00#8) }

/-! ### The meanings -/

/-- RLC (R241). -/
def execRlc (s : State) : Result := .next (rotateLeft (s.a.getLsbD 7) s)

/-- RRC (R242). -/
def execRrc (s : State) : Result := .next (rotateRight (s.a.getLsbD 0) s)

/-- RAL (R243). -/
def execRal (s : State) : Result := .next (rotateLeft s.flags.cy s)

/-- RAR (R244). -/
def execRar (s : State) : Result := .next (rotateRight s.flags.cy s)

/-- STC (R245). -/
def execStc (s : State) : Result := .next (setCarry true s)

/-- CMC (R246). -/
def execCmc (s : State) : Result := .next (setCarry (!s.flags.cy) s)

end Sys2Proof.Machine
end

