-- ==== Sys2Proof/Machine/Stack.lean ====
section
/-! DEFINITION. The stack and subroutine instructions (44_stack_subroutine.md, R210 to R221): the shared operations,
then one meaning per instruction. -/

namespace Sys2Proof.Machine

/-- PUSH (R211, R212). -/
def pushPair (p : StackPair) (s : State) : State := pushWord (stackPairValue p s) s

/-- POP (R213, R214). -/
def popPair (p : StackPair) (s : State) : State := setStackPair p (popWordValue s) (poppedWord s)

/-- CALL: the target is fetched, then the return address is pushed, then PC takes the target (R215). -/
def callTo (a : Word) (s : State) : State :=
  { pushWord (takeWord a s).pc (takeWord a s) with pc := a }

/-- Ccc: taken, exactly as CALL; not taken, only the operand is fetched (R216). -/
def callWhen (cond : Cond) (a : Word) (s : State) : State :=
  if condHolds cond s.flags then callTo a s else takeWord a s

/-- RET (R217). -/
def returnToCaller (s : State) : State := { poppedWord s with pc := popWordValue s }

/-- Rcc (R218). -/
def returnWhen (cond : Cond) (s : State) : State := if condHolds cond s.flags then returnToCaller s else s

/-- XTHL: both reads precede both writes, L goes to SP and H to `u16(SP + 1)` (R220). -/
def exchangeTopHL (s : State) : State := setPair .hl (readWord s.sp s) (writeWord s.sp (hl s) s)

/-- SPHL (R221). -/
def loadSPFromHL (s : State) : State := { s with sp := hl s }

/-! ### The meanings -/

/-- PUSH B (R211). -/
def execPushB (s : State) : Result := .next (pushPair .bc s)

/-- PUSH D (R211). -/
def execPushD (s : State) : Result := .next (pushPair .de s)

/-- PUSH H (R211). -/
def execPushH (s : State) : Result := .next (pushPair .hl s)

/-- PUSH PSW (R212). -/
def execPushPsw (s : State) : Result := .next (pushPair .psw s)

/-- POP B (R213). -/
def execPopB (s : State) : Result := .next (popPair .bc s)

/-- POP D (R213). -/
def execPopD (s : State) : Result := .next (popPair .de s)

/-- POP H (R213). -/
def execPopH (s : State) : Result := .next (popPair .hl s)

/-- POP PSW (R214). -/
def execPopPsw (s : State) : Result := .next (popPair .psw s)

/-- CALL a16 (R215). -/
def execCall (v : Word) (s : State) : Result := .next (callTo v s)

/-- CNZ a16 (R216). -/
def execCnz (v : Word) (s : State) : Result := .next (callWhen .nz v s)

/-- CZ a16 (R216). -/
def execCz (v : Word) (s : State) : Result := .next (callWhen .z v s)

/-- CNC a16 (R216). -/
def execCnc (v : Word) (s : State) : Result := .next (callWhen .nc v s)

/-- CC a16 (R216). -/
def execCc (v : Word) (s : State) : Result := .next (callWhen .c v s)

/-- CPO a16 (R216). -/
def execCpo (v : Word) (s : State) : Result := .next (callWhen .po v s)

/-- CPE a16 (R216). -/
def execCpe (v : Word) (s : State) : Result := .next (callWhen .pe v s)

/-- CP a16 (R216). -/
def execCp (v : Word) (s : State) : Result := .next (callWhen .p v s)

/-- CM a16 (R216). -/
def execCm (v : Word) (s : State) : Result := .next (callWhen .m v s)

/-- RET (R217). -/
def execRet (s : State) : Result := .next (returnToCaller s)

/-- RNZ (R218). -/
def execRnz (s : State) : Result := .next (returnWhen .nz s)

/-- RZ (R218). -/
def execRz (s : State) : Result := .next (returnWhen .z s)

/-- RNC (R218). -/
def execRnc (s : State) : Result := .next (returnWhen .nc s)

/-- RC (R218). -/
def execRc (s : State) : Result := .next (returnWhen .c s)

/-- RPO (R218). -/
def execRpo (s : State) : Result := .next (returnWhen .po s)

/-- RPE (R218). -/
def execRpe (s : State) : Result := .next (returnWhen .pe s)

/-- RP (R218). -/
def execRp (s : State) : Result := .next (returnWhen .p s)

/-- RM (R218). -/
def execRm (s : State) : Result := .next (returnWhen .m s)

/-- XTHL (R220). -/
def execXthl (s : State) : Result := .next (exchangeTopHL s)

/-- SPHL (R221). -/
def execSphl (s : State) : Result := .next (loadSPFromHL s)

end Sys2Proof.Machine
end

