-- ==== Sys2Proof/Machine/Cycle.lean ====
section
/-! DEFINITION. The instruction cycle (R90, R91) and the placing of an instruction where the cycle fetches. -/

namespace Sys2Proof.Machine

/-- The decode miss: IR holds the byte, PC is one past it, and the fault records the address it was fetched from
(R90, R251). -/
def unmappedOpcode (s : State) : State :=
  raiseFault (.invalidOpcode s.pc (readByte s.pc s)) (fetchOpcode s)

/-- Fetch, decode, execute, in the run state Running (R90). -/
def runOne (s : State) : Result :=
  match decode (fetchBytes s) with
  | .ok (i, _) => exec i (fetchOpcode s)
  | .error _ => .next (unmappedOpcode s)

/-- One step: in Halted and Faulted it does nothing (R90, R91). -/
def cycle (s : State) : Result :=
  match s.run with
  | .running => runOne s
  | .halted => .next s
  | .faulted _ => .next s

/-- Bytes stored at ascending addresses from `a` on, modulo 65536. -/
def storeFrom (bytes : List Byte) (a : Word) (s : State) : State :=
  match bytes with
  | [] => s
  | v :: rest => storeFrom rest (a + 1#16) (writeByte a v s)

/-- An instruction's bytes stored at PC, in a machine that will fetch them: the run state is Running (log 4). -/
def placeAtPC (bytes : List Byte) (s : State) : State := storeFrom bytes s.pc { s with run := .running }

end Sys2Proof.Machine
end

