-- ==== Sys2Proof/Machine/Step.lean ====
section
/-! DEFINITION. The step of the machine, and an instruction placed where the next step fetches. -/

namespace Sys2Proof.Machine

/-- One step of the machine (R90, R91; Machine/Cycle.lean). -/
def step (s : State) : Host.Outcome State Fault Refusal := cycle s

/-- `s` with the instruction whose bits are `w` stored at PC and the run state Running, so that the next step fetches
and runs it (log 4). -/
def State.withFetchWord (s : State) (nbits w : Nat) : State := placeAtPC (tableBytes nbits w) s

end Sys2Proof.Machine
end

