-- ==== Sys2Proof/Machine/HostInterface.lean ====
section
/-! DEFINITION. The host interface: what the outside world can do to the machine between instructions (60_exceptions.md
section 4, R262 to R268; log 10). A failing operation answers an error and changes nothing. -/

namespace Sys2Proof.Machine

/-- `reset()` (R265). -/
def hostReset (s : State) : State := resetMachine s

/-- The bytes stored from cell `n` on, each masked to 8 bits (R263). -/
def storeBytes : List Int → Nat → Cells → Cells
  | [], _, m => m
  | v :: rest, n, m => storeBytes rest (n + 1) (Cells.write m n (u8 v))

/-- `load(bytes, start)` (R263, R255). A negative start is looked at first (DESIGN CHOICE, log 7). A start at or above
`N` is judged by the size alone, as R263 says and U17 of 93_implementation_defined.md does not (DESIGN CHOICE, log 12):
ProgramTooLarge, and nothing done for no bytes at `N`. -/
def hostLoad (bytes : List Int) (start : Int) (s : State) : Except Fault State :=
  if start < 0 then .error (.outOfBounds start)
  else if memorySize < start + bytes.length then .error .programTooLarge
  else .ok { s with mem := storeBytes bytes start.toNat s.mem }

/-- Whether a number is an address: inside `[0, N)` (R253). -/
def isAddress (a : Int) : Bool := decide (0 ≤ a ∧ a < memorySize)

/-- `peek(a)` (R267). -/
def hostPeek (a : Int) (s : State) : Except Fault Byte :=
  if isAddress a then .ok (Cells.read s.mem a.toNat) else .error (.outOfBounds a)

/-- `poke(a, v)`, the value masked to 8 bits (R267). -/
def hostPoke (a v : Int) (s : State) : Except Fault State :=
  if isAddress a then .ok { s with mem := Cells.write s.mem a.toNat (u8 v) } else .error (.outOfBounds a)

/-- `INP[p] <- v`; there is no such register for an undefined port (R268; log 8). -/
def hostWritePort (p v : Byte) (s : State) : Option State :=
  if p ∈ parameters.inPorts then some (setInputPort p v s) else none

/-- The value of `OUTP[p]`; there is no such register for an undefined port (R268; log 8). -/
def hostReadPort (p : Byte) (s : State) : Option Byte :=
  if p ∈ parameters.outPorts then some (outputPort p s) else none

/-- What `step()` reports of the run state it leaves: true iff Halted, or the recorded fault (R266). -/
def stepReport (r : RunState) : Except Fault Bool :=
  match r with
  | .running => .ok false
  | .halted => .ok true
  | .faulted f => .error f

/-- `step()`: the state after one cycle and its report (R266). -/
def hostStep (s : State) : Host.Outcome (State × Except Fault Bool) Fault Refusal :=
  match step s with
  | .next t => .next (t, stepReport t.run)
  | .fault f => .fault f
  | .refused r => .refused r

/-- `run()` watched for at most `n` steps: the state it returns with and its report, normally when Halted, failing when
Faulted; `none` while it has not returned (R92, R264; log 11). -/
def hostRun : Nat → State → Option (State × Except Fault Unit)
  | 0, s =>
    match s.run with
    | .running => none
    | .halted => some (s, .ok ())
    | .faulted f => some (s, .error f)
  | n + 1, s =>
    match s.run with
    | .running =>
      match step s with
      | .next t => hostRun n t
      | .fault _ => none
      | .refused _ => none
    | .halted => some (s, .ok ())
    | .faulted f => some (s, .error f)

/-- What the host can do that changes the machine, `step` apart (R262). -/
inductive HostAction where
  | reset
  | load (bytes : List Int) (start : Int)
  | poke (a v : Int)
  | writePort (p v : Byte)
deriving DecidableEq, Repr

/-- The state after a host action; a failing one changes nothing (R262, R263, R267, R268). -/
def hostAct (x : HostAction) (s : State) : State :=
  match x with
  | .reset => hostReset s
  | .load bytes start => (hostLoad bytes start s).toOption.getD s
  | .poke a v => (hostPoke a v s).toOption.getD s
  | .writePort p v => (hostWritePort p v s).getD s

end Sys2Proof.Machine
end

