-- ==== Sys2Proof/Safety.lean ====
section
/-! DEFINITION. The terms claims are stated in: what flags say of a result, what an instruction leaves unchanged, the
invariant of the machine, and what a successful run is. -/

namespace Sys2Proof

open Sys2Proof.Machine

/-- The flags say of the 8-bit result `res` what R33 says: zero, sign and parity of it, and the carry when `carry`. -/
def FlagsFrom (res : Byte) (carry : Prop) (f : Flags) : Prop :=
  (f.z = true ↔ res = 0x00#8) ∧ (f.s = true ↔ 128 ≤ res.toNat) ∧ (f.p = true ↔ popcount res % 2 = 0) ∧
  (f.cy = true ↔ carry)

/-- A holds the exact sum reduced modulo 256, and the flags are of that result with the carry of the sum (R121). -/
def HoldsSum (sum : Nat) (t : State) : Prop :=
  t.a.toNat = sum % 256 ∧ FlagsFrom t.a (255 < sum) t.flags

/-- A holds the exact difference reduced modulo 256, and the flags are of that result with its borrow (R121). -/
def HoldsDifference (difference : Int) (t : State) : Prop :=
  (t.a.toNat : Int) = difference % 256 ∧ FlagsFrom t.a (difference < 0) t.flags

/-- The flags are of the exact difference reduced modulo 256, with its borrow (R121, R130). -/
def FlagsOfDifference (difference : Int) (f : Flags) : Prop :=
  ∃ res : Byte, (res.toNat : Int) = difference % 256 ∧ FlagsFrom res (difference < 0) f

/-- A holds, bit by bit, `f` of the old A and `v`, and the flags are of that result with carry 0 (R150). -/
def HoldsBitwise (f : Bool → Bool → Bool) (v : Byte) (s t : State) : Prop :=
  (∀ k < 8, t.a.getLsbD k = f (s.a.getLsbD k) (v.getLsbD k)) ∧ FlagsFrom t.a False t.flags

/-- `t` is `s` but for what the operand holds: the register, or the one byte at `H : L` (R26, R27). -/
def OnlyOperandDiffers (o : Operand) (s t : State) : Prop :=
  match o with
  | .reg r => t = setReg r (getReg r t) s
  | .m => t = { s with mem := t.mem } ∧ ∀ a, a ≠ mkWord s.h s.l → readByte a t = readByte a s

/-- Memory differs from that of `s` in one byte, which holds `v` (R61). -/
def StoresByte (a : Word) (v : Byte) (s t : State) : Prop :=
  ∀ b, readByte b t = if b = a then v else readByte b s

/-- Memory differs from that of `s` in the byte at `a` and the byte at `b` (R69). -/
def StoresBytes (a : Word) (v : Byte) (b : Word) (u : Byte) (s t : State) : Prop :=
  ∀ n, readByte n t = if n = a then v else if n = b then u else readByte n s

/-- The upper half of what PUSH stores, pushed first (R211, R212). -/
def upperHalf (p : StackPair) (s : State) : Byte :=
  match p with
  | .bc => s.b
  | .de => s.d
  | .hl => s.h
  | .psw => s.a

/-- The lower half of what PUSH stores, pushed second (R211, R212). -/
def lowerHalf (p : StackPair) (s : State) : Byte :=
  match p with
  | .bc => s.c
  | .de => s.e
  | .hl => s.l
  | .psw => flagsImage s.flags

/-- The instructions that can write PC other than by fetching (R29, R200). -/
def Transfers (i : Instr) : Prop :=
  i = .pchl ∨ i = .ret ∨ (∃ a, i = .jmp a ∨ i = .call a) ∨ (∃ cond, i = .returnIf cond) ∨
  ∃ cond a, i = .jumpIf cond a ∨ i = .callIf cond a

/-- A stopped machine holds what its stop left: a halted one the opcode of HLT in IR (R232), a faulted one the opcode in
IR, PC past the bytes fetched, and a fault that the byte or the port number deserves (R251, R252). No instruction
leaves the two faults of the host operations behind (R253, R255). -/
def StopRecorded (s : State) : Prop :=
  match s.run with
  | .running => True
  | .halted => s.ir = 0x76#8
  | .faulted (.invalidOpcode address opcode) =>
    opcode ∈ unmappedOpcodes ∧ s.ir = opcode ∧ s.pc = address + 1#16
  | .faulted (.invalidPort address port) =>
    (s.ir = 0xDB#8 ∧ port ∉ parameters.inPorts ∨ s.ir = 0xD3#8 ∧ port ∉ parameters.outPorts) ∧ s.pc = address + 2#16
  | .faulted (.outOfBounds _) => False
  | .faulted .programTooLarge => False

/-- The invariant of the machine. -/
structure Inv (s : State) : Prop where
  /-- Memory is in its canonical form, every listed address inside `[0, N)` (R60, R62). -/
  mem : Memory.wf s.mem
  /-- Only defined input ports have a register (R38). -/
  inp : Ports.wf parameters.inPorts s.inp
  /-- Only defined output ports have a register (R38). -/
  outp : Ports.wf parameters.outPorts s.outp
  /-- A stop is recorded as the spec says. -/
  stop : StopRecorded s

/-- A run ends well only in Halted: a faulted machine has not run to HLT (R259). -/
def EndedWell (s : State) : Prop := s.run = .halted

/-- Two states are the same to every program: they differ in the scratch registers W and Z at most (R25). -/
def SameButScratch (s t : State) : Prop := { s with w := t.w, z := t.z } = t

end Sys2Proof
end

