-- ==== Sys2Proof/Certificates/Slice0/Obligations.lean ====
section
/-! DEFINITION. The statements for the provers, from the numbered rules of spec/. A state `s` of a statement about
`exec` is the state right after the opcode fetch: PC is one past the opcode (R90). Each statement about an instruction
says its result, its frame and that it completes. -/

open Sys2Proof Sys2Proof.Machine

/-- The state at power-on (R46, R281). That the port registers are cleared and that construction leaves the reset values is the spec's decision D13 (log 3). -/
def Obligations.PowerOnStateIsCleared : Prop :=
  let s := State.reset
  (∀ r, getReg r s = 0x00#8) ∧ s.w = 0x00#8 ∧ s.z = 0x00#8 ∧ s.pc = 0x0000#16 ∧ s.sp = 0x0000#16 ∧ s.ir = 0x00#8 ∧
  s.flags = { s := false, z := false, p := false, cy := false } ∧
  (∀ p ∈ parameters.inPorts, inputPort p s = 0x00#8) ∧ (∀ p ∈ parameters.outPorts, outputPort p s = 0x00#8) ∧
  s.run = .running ∧ ∀ a, readByte a s = 0x00#8

/-- Reset (R265, R280). That the port registers are cleared is the spec's decision D13. -/
def Obligations.ResetClearsAllButMemory : Prop :=
  ∀ s : State, let t := hostReset s
    (∀ r, getReg r t = 0x00#8) ∧ t.w = 0x00#8 ∧ t.z = 0x00#8 ∧ t.pc = 0x0000#16 ∧ t.sp = 0x0000#16 ∧ t.ir = 0x00#8 ∧
    t.flags = { s := false, z := false, p := false, cy := false } ∧
    (∀ p ∈ parameters.inPorts, inputPort p t = 0x00#8) ∧ (∀ p ∈ parameters.outPorts, outputPort p t = 0x00#8) ∧
    t.run = .running ∧ t.mem = s.mem

/-- R23, R24. Which named register is the upper half is R24, the spec's decision D11. -/
def Obligations.PairsComposeAndDecompose : Prop :=
  ∀ (v : Word) (s : State),
    (setPair .bc v s = { s with b := hiByte v, c := loByte v } ∧
      setPair .de v s = { s with d := hiByte v, e := loByte v } ∧
      setPair .hl v s = { s with h := hiByte v, l := loByte v }) ∧
    ((hiByte v).toNat = v.toNat / 256 ∧ (loByte v).toNat = v.toNat % 256) ∧
    ((getPair .bc s).toNat = s.b.toNat * 256 + s.c.toNat ∧ (getPair .de s).toNat = s.d.toNat * 256 + s.e.toNat ∧
      (getPair .hl s).toNat = s.h.toNat * 256 + s.l.toNat) ∧
    getPair .bc (setPair .bc v s) = v ∧ getPair .de (setPair .de v s) = v ∧ getPair .hl (setPair .hl v s) = v

/-- R26. -/
def Obligations.IndirectRegisterIsTheByteAtHL : Prop :=
  ∀ (v : Byte) (s : State),
    readOperand .m s = readByte (mkWord s.h s.l) s ∧
    writeOperand .m v s = { s with mem := (writeOperand .m v s).mem } ∧
    StoresByte (mkWord s.h s.l) v s (writeOperand .m v s)

/-- R61. -/
def Obligations.MemoryWriteChangesOneCell : Prop :=
  ∀ (a : Word) (v : Byte) (s : State),
    writeByte a v s = { s with mem := (writeByte a v s).mem } ∧ StoresByte a v s (writeByte a v s)

/-- The canonical form of memory is the model's (log 6): it makes memories with the same 65536 bytes (R60) equal data. -/
def Obligations.CanonicalMemoriesReadingAlikeAreEqual : Prop :=
  ∀ m n : Cells, Memory.wf m → Memory.wf n → (∀ a : Word, Cells.read m a.toNat = Cells.read n a.toNat) → m = n

/-- The code tables of R27, R28 and R36, with what POP does to PSW (R214). The codes are the spec's decision D2, the halves of the pairs D11, the treatment of the flag byte D21. -/
def Obligations.OpcodeFieldCodesSelectOperands : Prop :=
  ∀ (v : Byte) (x : Word) (s : State) (f : Flags),
    (List.range 8).map (fun code => readOperand (operandOfCode code) s) =
      [s.b, s.c, s.d, s.e, s.h, s.l, readByte (mkWord s.h s.l) s, s.a] ∧
    (List.range 8).map (fun code => writeOperand (operandOfCode code) v s) =
      [{ s with b := v }, { s with c := v }, { s with d := v }, { s with e := v }, { s with h := v }, { s with l := v },
        writeByte (mkWord s.h s.l) v s, { s with a := v }] ∧
    (List.range 4).map (fun code => getPair (pairOfCode code) s) =
      [mkWord s.b s.c, mkWord s.d s.e, mkWord s.h s.l, s.sp] ∧
    (List.range 4).map (fun code => setPair (pairOfCode code) x s) =
      [{ s with b := hiByte x, c := loByte x }, { s with d := hiByte x, e := loByte x },
        { s with h := hiByte x, l := loByte x }, { s with sp := x }] ∧
    (List.range 4).map (fun code => stackPairValue (stackPairOfCode code) s) =
      [mkWord s.b s.c, mkWord s.d s.e, mkWord s.h s.l, mkWord s.a (flagsImage s.flags)] ∧
    (List.range 4).map (fun code => setStackPair (stackPairOfCode code) x s) =
      [{ s with b := hiByte x, c := loByte x }, { s with d := hiByte x, e := loByte x },
        { s with h := hiByte x, l := loByte x }, { s with a := hiByte x, flags := flagsOfImage (loByte x) }] ∧
    (List.range 8).map (fun code => condHolds (condOfCode code) f) =
      [!f.z, f.z, !f.cy, f.cy, !f.p, f.p, !f.s, f.s]

/-- R32. The bit positions are the spec's decision D3, the discarding of the other bits D21. -/
def Obligations.FlagImageHoldsExactlyTheFlags : Prop :=
  (∀ f : Flags, (List.range 8).map (flagsImage f).getLsbD = [f.cy, false, f.p, false, false, false, f.z, f.s] ∧
    flagsOfImage (flagsImage f) = f) ∧
  ∀ v : Byte, flagsImage (flagsOfImage v) = v &&& 0xC5#8

/-- R98. -/
def Obligations.AttestedOpcodesDecode : Prop :=
  ∀ (v : Byte) (rest : List Byte),
    decode (0x00#8 :: rest) = .ok (.nop, rest) ∧
    decode (0x3E#8 :: v :: rest) = .ok (.mviA v, rest) ∧
    decode (0x06#8 :: v :: rest) = .ok (.mviB v, rest) ∧
    decode (0x80#8 :: rest) = .ok (.addB, rest) ∧
    decode (0x76#8 :: rest) = .ok (.hlt, rest) ∧
    decode (0x08#8 :: rest) = .error (.unmapped 0x08#8)

/-- Words from R95 and R100. The map is the spec's decision D1. -/
def Obligations.WrittenOutWordsDecode : Prop :=
  decode [0x8E#8] = .ok (.adcM, []) ∧ decode [0xDE#8, 0x5A#8] = .ok (.sbi 0x5A#8, []) ∧
  decode [0x2F#8] = .ok (.cma, []) ∧ decode [0x62#8] = .ok (.movHD, []) ∧
  decode [0x21#8, 0x34#8, 0x12#8] = .ok (.lxiH 0x1234#16, []) ∧
  decode [0x32#8, 0xCD#8, 0xAB#8] = .ok (.sta 0xABCD#16, []) ∧
  decode [0xEA#8, 0x00#8, 0x02#8] = .ok (.jpe 0x0200#16, []) ∧
  decode [0xF5#8] = .ok (.pushPsw, []) ∧ decode [0xDC#8, 0x01#8, 0x80#8] = .ok (.cc 0x8001#16, []) ∧
  decode [0xD3#8, 0x04#8] = .ok (.outPort 0x04#8, []) ∧ decode [0x1F#8] = .ok (.rar, [])

/-- The decoder is written from R95, the encoder from R100, the lists from R94 and R101. The map is the spec's decision D1. -/
def Obligations.DecodeInvertsEncode : Prop :=
  ∀ i : Instr, (∀ rest, decode (encode i ++ rest) = .ok (i, rest)) ∧ wellFormedBytes (encode i) = true

/-- No bit of an encoding is dropped (R93, R95, R102). The map is the spec's decision D1. -/
def Obligations.DecodedBytesAreTheEncoding : Prop :=
  ∀ (bs : List Byte) (i : Instr) (rest : List Byte), decode bs = .ok (i, rest) → bs = encode i ++ rest

/-- The lengths of R94 and the unmapped opcodes of R101. Both rest on the spec's decision D1. -/
def Obligations.WellFormedBytesAreOneInstruction : Prop :=
  (∀ bs : List Byte, wellFormedBytes bs = true ↔ ∃ i, decode bs = .ok (i, [])) ∧
  ∀ (op : Byte) (rest : List Byte), decode (op :: rest) = .error (.unmapped op) ↔ op ∈ unmappedOpcodes

/-- R90. That the operand bytes are read with the opcode is log 5. -/
def Obligations.StepFetchesDecodesExecutes : Prop :=
  ∀ s : State,
    let bytes := [readByte s.pc s, readByte (s.pc + 1#16) s, readByte (s.pc + 2#16) s]
    let fetched := { s with ir := readByte s.pc s, pc := s.pc + 1#16 }
    (s.run ≠ .running → step s = .next s) ∧
    (s.run = .running → ∀ i rest, decode bytes = .ok (i, rest) → step s = exec i fetched) ∧
    (s.run = .running → ∀ e, decode bytes = .error e →
      step s = .next { fetched with run := .faulted (.invalidOpcode s.pc (readByte s.pc s)) })

/-- R251. Which bytes are unmapped (R101) is the spec's decision D1, the wrap of PC at 0xFFFF D8. -/
def Obligations.UnmappedOpcodeFaults : Prop :=
  ∀ s : State, s.run = .running → readByte s.pc s ∈ unmappedOpcodes →
    step s = .next { s with
      ir := readByte s.pc s, pc := s.pc + 1#16, run := .faulted (.invalidOpcode s.pc (readByte s.pc s)) }

/-- R91, R259. That a step in Halted or Faulted is a no-op is the spec's decision D9. -/
def Obligations.StoppedMachineStandsStill : Prop :=
  ∀ (n : Nat) (s : State), s.run ≠ .running → Host.Core.run Sys2Proof.core n s = .next s

/-- 93_implementation_defined.md: every step from every state has exactly one defined successor; R31 (the spec's decision D19; log 2). -/
def Obligations.EveryStepHasASuccessor : Prop :=
  ∀ s : State, ∃ t, step s = .next t ∧ t.ir = if s.run = .running then readByte s.pc s else s.ir

/-- R29. The wrap at 0xFFFF is the spec's decision D8. -/
def Obligations.PcAdvancesByInstructionLength : Prop :=
  ∀ (s : State) (i : Instr) (rest : List Byte), s.run = .running →
    decode [readByte s.pc s, readByte (s.pc + 1#16) s, readByte (s.pc + 2#16) s] = .ok (i, rest) → ¬ Transfers i →
    ∃ t, step s = .next t ∧ t.pc = s.pc + BitVec.ofNat 16 (encode i).length

/-- R122, R126. Their opcodes are stated by DecodeInvertsEncode. -/
def Obligations.AddWritesSumAndFlags : Prop :=
  ∀ (o : Operand) (v : Byte) (s : State),
    (∃ t, exec (.alu .add o) s = .next t ∧ t = { s with a := t.a, flags := t.flags } ∧
      HoldsSum (s.a.toNat + (readOperand o s).toNat) t) ∧
    ∃ t, exec (.adi v) s = .next t ∧ t = { s with pc := s.pc + 1#16, a := t.a, flags := t.flags } ∧
      HoldsSum (s.a.toNat + v.toNat) t

/-- R123, R127. -/
def Obligations.AddWithCarryReadsOldCarry : Prop :=
  ∀ (o : Operand) (v : Byte) (s : State),
    (∃ t, exec (.alu .adc o) s = .next t ∧ t = { s with a := t.a, flags := t.flags } ∧
      HoldsSum (s.a.toNat + (readOperand o s).toNat + s.flags.cy.toNat) t) ∧
    ∃ t, exec (.aci v) s = .next t ∧ t = { s with pc := s.pc + 1#16, a := t.a, flags := t.flags } ∧
      HoldsSum (s.a.toNat + v.toNat + s.flags.cy.toNat) t

/-- R124, R128. -/
def Obligations.SubtractWritesDifferenceAndBorrow : Prop :=
  ∀ (o : Operand) (v : Byte) (s : State),
    (∃ t, exec (.alu .sub o) s = .next t ∧ t = { s with a := t.a, flags := t.flags } ∧
      HoldsDifference ((s.a.toNat : Int) - (readOperand o s).toNat) t) ∧
    ∃ t, exec (.sui v) s = .next t ∧ t = { s with pc := s.pc + 1#16, a := t.a, flags := t.flags } ∧
      HoldsDifference ((s.a.toNat : Int) - v.toNat) t

/-- R125, R129. -/
def Obligations.SubtractWithBorrowReadsOldCarry : Prop :=
  ∀ (o : Operand) (v : Byte) (s : State),
    (∃ t, exec (.alu .sbb o) s = .next t ∧ t = { s with a := t.a, flags := t.flags } ∧
      HoldsDifference ((s.a.toNat : Int) - (readOperand o s).toNat - s.flags.cy.toNat) t) ∧
    ∃ t, exec (.sbi v) s = .next t ∧ t = { s with pc := s.pc + 1#16, a := t.a, flags := t.flags } ∧
      HoldsDifference ((s.a.toNat : Int) - v.toNat - s.flags.cy.toNat) t

/-- R130, R131. That the flags are of the discarded difference is the spec's decision D6. -/
def Obligations.CompareWritesFlagsOnly : Prop :=
  ∀ (o : Operand) (v : Byte) (s : State),
    (∃ t, exec (.alu .cmp o) s = .next t ∧ t = { s with flags := t.flags } ∧
      FlagsOfDifference ((s.a.toNat : Int) - (readOperand o s).toNat) t.flags) ∧
    ∃ t, exec (.cpi v) s = .next t ∧ t = { s with pc := s.pc + 1#16, flags := t.flags } ∧
      FlagsOfDifference ((s.a.toNat : Int) - v.toNat) t.flags

/-- R132 to R135. That CY is written is the spec's decision D5 and the parameter INRDCR_WRITE_CY (log 1), that the flags are of the operand D6. -/
def Obligations.IncrementDecrementWriteOperandAndFlags : Prop :=
  ∀ (o : Operand) (s : State),
    (∃ t, exec (.inr o) s = .next t ∧ OnlyOperandDiffers o { s with flags := t.flags } t ∧
      (readOperand o t).toNat = ((readOperand o s).toNat + 1) % 256 ∧
      FlagsFrom (readOperand o t) (readOperand o s = 0xFF#8) t.flags) ∧
    (∃ t, exec (.dcr o) s = .next t ∧ OnlyOperandDiffers o { s with flags := t.flags } t ∧
      ((readOperand o t).toNat : Int) = ((readOperand o s).toNat - 1 : Int) % 256 ∧
      FlagsFrom (readOperand o t) (readOperand o s = 0x00#8) t.flags) ∧
    ∀ c : Config, c.inrDcrWriteCy = false →
      (incrementOperand c o s).flags.cy = s.flags.cy ∧ (decrementOperand c o s).flags.cy = s.flags.cy

/-- R136, R137. That no flag is written is the spec's decision D15. -/
def Obligations.PairStepsWriteNoFlag : Prop :=
  ∀ (p : Pair) (s : State),
    (∃ t, exec (.inx p) s = .next t ∧ t = setPair p (getPair p t) s ∧
      (getPair p t).toNat = ((getPair p s).toNat + 1) % 65536) ∧
    ∃ t, exec (.dcx p) s = .next t ∧ t = setPair p (getPair p t) s ∧
      ((getPair p t).toNat : Int) = ((getPair p s).toNat - 1 : Int) % 65536

/-- R138. The flags are the spec's decision D15. -/
def Obligations.DadWritesHLAndCarryOnly : Prop :=
  ∀ (p : Pair) (s : State), ∃ t, exec (.dad p) s = .next t ∧
    t = { s with h := t.h, l := t.l, flags := { s.flags with cy := t.flags.cy } } ∧
    (mkWord t.h t.l).toNat = ((mkWord s.h s.l).toNat + (getPair p s).toNat) % 65536 ∧
    (t.flags.cy = true ↔ 65535 < (mkWord s.h s.l).toNat + (getPair p s).toNat)

/-- R151 to R156. -/
def Obligations.LogicIsBitwiseAndClearsCarry : Prop :=
  ∀ (o : Operand) (v : Byte) (s : State),
    (∃ t, exec (.alu .ana o) s = .next t ∧ t = { s with a := t.a, flags := t.flags } ∧
      HoldsBitwise (fun x y => x && y) (readOperand o s) s t) ∧
    (∃ t, exec (.ani v) s = .next t ∧ t = { s with pc := s.pc + 1#16, a := t.a, flags := t.flags } ∧
      HoldsBitwise (fun x y => x && y) v s t) ∧
    (∃ t, exec (.alu .xra o) s = .next t ∧ t = { s with a := t.a, flags := t.flags } ∧
      HoldsBitwise (fun x y => x != y) (readOperand o s) s t) ∧
    (∃ t, exec (.xri v) s = .next t ∧ t = { s with pc := s.pc + 1#16, a := t.a, flags := t.flags } ∧
      HoldsBitwise (fun x y => x != y) v s t) ∧
    (∃ t, exec (.alu .ora o) s = .next t ∧ t = { s with a := t.a, flags := t.flags } ∧
      HoldsBitwise (fun x y => x || y) (readOperand o s) s t) ∧
    (∃ t, exec (.ori v) s = .next t ∧ t = { s with pc := s.pc + 1#16, a := t.a, flags := t.flags } ∧
      HoldsBitwise (fun x y => x || y) v s t)

/-- R157, R245, R246. What they do to the flags is the spec's decision D16. -/
def Obligations.ComplementAndCarryInstructions : Prop :=
  ∀ s : State,
    (∃ t, exec .cma s = .next t ∧ t = { s with a := t.a } ∧ t.a.toNat = 255 - s.a.toNat) ∧
    exec .stc s = .next { s with flags := { s.flags with cy := true } } ∧
    ∃ t, exec .cmc s = .next t ∧ t = { s with flags := { s.flags with cy := t.flags.cy } } ∧
      t.flags.cy.toNat = 1 - s.flags.cy.toNat

/-- R171, R172. -/
def Obligations.MovLoadsOneRegister : Prop :=
  ∀ (dst src : Reg) (s : State),
    exec (.mov dst src) s = .next (setReg dst (getReg src s) s) ∧
    exec (.movFromM dst) s = .next (setReg dst (readByte (mkWord s.h s.l) s) s)

/-- R173, R175. -/
def Obligations.StoresThroughMChangeOneByte : Prop :=
  ∀ (src : Reg) (v : Byte) (s : State),
    (∃ t, exec (.movToM src) s = .next t ∧ t = { s with mem := t.mem } ∧
      StoresByte (mkWord s.h s.l) (getReg src s) s t) ∧
    ∃ t, exec (.mviM v) s = .next t ∧ t = { s with pc := s.pc + 1#16, mem := t.mem } ∧
      StoresByte (mkWord s.h s.l) v s t

/-- R174, R176. -/
def Obligations.ImmediateLoadsWriteTheirRegister : Prop :=
  (∀ (r : Reg) (v : Byte) (s : State), exec (.mvi (.reg r) v) s = .next (setReg r v { s with pc := s.pc + 1#16 })) ∧
  ∀ (lo hi : Byte) (s : State),
    let fetched := { s with pc := s.pc + 2#16, w := hi, z := lo }
    exec (.lxiB (mkWord hi lo)) s = .next { fetched with b := hi, c := lo } ∧
    exec (.lxiD (mkWord hi lo)) s = .next { fetched with d := hi, e := lo } ∧
    exec (.lxiH (mkWord hi lo)) s = .next { fetched with h := hi, l := lo } ∧
    exec (.lxiSp (mkWord hi lo)) s = .next { fetched with sp := mkWord hi lo }

/-- R177, R179. -/
def Obligations.AccumulatorLoadsReadOneByte : Prop :=
  ∀ (a : Word) (s : State),
    exec (.lda a) s = .next { s with pc := s.pc + 2#16, w := hiByte a, z := loByte a, a := readByte a s } ∧
    exec .ldaxB s = .next { s with a := readByte (mkWord s.b s.c) s } ∧
    exec .ldaxD s = .next { s with a := readByte (mkWord s.d s.e) s }

/-- R178, R180. -/
def Obligations.AccumulatorStoresChangeOneByte : Prop :=
  ∀ (a : Word) (s : State),
    (∃ t, exec (.sta a) s = .next t ∧
      t = { s with pc := s.pc + 2#16, w := hiByte a, z := loByte a, mem := t.mem } ∧ StoresByte a s.a s t) ∧
    (∃ t, exec .staxB s = .next t ∧ t = { s with mem := t.mem } ∧ StoresByte (mkWord s.b s.c) s.a s t) ∧
    ∃ t, exec .staxD s = .next t ∧ t = { s with mem := t.mem } ∧ StoresByte (mkWord s.d s.e) s.a s t

/-- R181, R182. Byte order, the wrap at 0xFFFF and the order of the accesses are the spec's decisions D14, D8, D23. -/
def Obligations.DirectHLTransfersAreLittleEndian : Prop :=
  ∀ (a : Word) (s : State),
    exec (.lhld a) s = .next { s with
      pc := s.pc + 2#16, w := hiByte a, z := loByte a, l := readByte a s, h := readByte (a + 1#16) s } ∧
    ∃ t, exec (.shld a) s = .next t ∧ t = { s with pc := s.pc + 2#16, w := hiByte a, z := loByte a, mem := t.mem } ∧
      StoresBytes a s.l (a + 1#16) s.h s t

/-- R183. -/
def Obligations.XchgSwapsHLAndDE : Prop :=
  ∀ s : State, exec .xchg s = .next { s with h := s.d, d := s.h, l := s.e, e := s.l }

/-- R201, R203, R221. -/
def Obligations.UnconditionalJumpsAndSphl : Prop :=
  ∀ (a : Word) (s : State),
    exec (.jmp a) s = .next { s with pc := a, w := hiByte a, z := loByte a } ∧
    exec .pchl s = .next { s with pc := mkWord s.h s.l } ∧
    exec .sphl s = .next { s with sp := mkWord s.h s.l }

/-- R202, R216. The conditions are the spec's decision D2, that an untaken form consumes its operand D20. -/
def Obligations.ConditionalJumpsAndCallsConsumeOperand : Prop :=
  ∀ (cond : Cond) (a : Word) (s : State),
    (∃ t, exec (.jumpIf cond a) s = .next t ∧
      t = { s with pc := if condHolds cond s.flags then a else s.pc + 2#16, w := hiByte a, z := loByte a }) ∧
    (condHolds cond s.flags = true → ∃ t, exec (.callIf cond a) s = .next t ∧ exec (.call a) s = .next t) ∧
    (condHolds cond s.flags = false →
      exec (.callIf cond a) s = .next { s with pc := s.pc + 2#16, w := hiByte a, z := loByte a })

/-- R211, R212. The positions of the flags in the image are the spec's decision D3, its zero bits D21 (FlagImageHoldsExactlyTheFlags). -/
def Obligations.PushStoresHighThenLow : Prop :=
  ∀ (p : StackPair) (s : State), ∃ t, exec (.push p) s = .next t ∧
    t = { s with sp := s.sp - 2#16, mem := t.mem } ∧
    StoresBytes (s.sp - 1#16) (upperHalf p s) (s.sp - 2#16) (lowerHalf p s) s t

/-- R213, R214. The positions of the flags in the image are the spec's decision D3. -/
def Obligations.PopLoadsLowThenHigh : Prop :=
  ∀ s : State,
    let lo := readByte s.sp s
    let hi := readByte (s.sp + 1#16) s
    exec .popB s = .next { s with sp := s.sp + 2#16, c := lo, b := hi } ∧
    exec .popD s = .next { s with sp := s.sp + 2#16, e := lo, d := hi } ∧
    exec .popH s = .next { s with sp := s.sp + 2#16, l := lo, h := hi } ∧
    exec .popPsw s = .next { s with
      sp := s.sp + 2#16, a := hi,
      flags := { s := lo.getLsbD 7, z := lo.getLsbD 6, p := lo.getLsbD 2, cy := lo.getLsbD 0 } }

/-- R215. -/
def Obligations.CallPushesReturnAddress : Prop :=
  ∀ (a : Word) (s : State), ∃ t, exec (.call a) s = .next t ∧
    t = { s with pc := a, sp := s.sp - 2#16, w := hiByte a, z := loByte a, mem := t.mem } ∧
    StoresBytes (s.sp - 1#16) (hiByte (s.pc + 2#16)) (s.sp - 2#16) (loByte (s.pc + 2#16)) s t

/-- R217, R218. The conditions are the spec's decision D2. -/
def Obligations.ReturnUndoesCall : Prop :=
  ∀ (cond : Cond) (a : Word) (opcode : Byte) (s : State),
    let returned := { s with pc := mkWord (readByte (s.sp + 1#16) s) (readByte s.sp s), sp := s.sp + 2#16 }
    exec .ret s = .next returned ∧
    exec (.returnIf cond) s = .next (if condHolds cond s.flags then returned else s) ∧
    ∃ t u, exec (.call a) s = .next t ∧ exec .ret { t with ir := opcode, pc := t.pc + 1#16 } = .next u ∧
      u.pc = s.pc + 2#16 ∧ u.sp = s.sp

/-- The corner case of R213, for PSW too (R212, R214). -/
def Obligations.PopUndoesPush : Prop :=
  ∀ (p : StackPair) (opcode : Byte) (s : State), ∃ t u,
    exec (.push p) s = .next t ∧ exec (.pop p) { t with ir := opcode, pc := t.pc + 1#16 } = .next u ∧
    u = { s with ir := opcode, pc := s.pc + 1#16, mem := t.mem }

/-- R220. The order of the accesses is the spec's decision D23. -/
def Obligations.XthlExchangesTopOfStack : Prop :=
  ∀ s : State, ∃ t, exec .xthl s = .next t ∧
    t = { s with l := readByte s.sp s, h := readByte (s.sp + 1#16) s, mem := t.mem } ∧
    StoresBytes s.sp s.l (s.sp + 1#16) s.h s t

/-- R230, R231. The sets of ports and what they mean are the spec's decision D10 (log 1). -/
def Obligations.PortInstructionsOnDefinedPorts : Prop :=
  ∀ (p : Byte) (s : State),
    (p ∈ parameters.inPorts → exec (.inPort p) s = .next { s with pc := s.pc + 1#16, a := inputPort p s }) ∧
    (p ∈ parameters.outPorts → ∃ t, exec (.outPort p) s = .next t ∧
      t = { s with pc := s.pc + 1#16, outp := t.outp } ∧ ∀ q, outputPort q t = if q = p then s.a else outputPort q s)

/-- R252. What the fault carries and which ports exist are the spec's decision D10 (log 1). -/
def Obligations.PortInstructionsOnUndefinedPortsFault : Prop :=
  ∀ (p : Byte) (s : State),
    let faulted := { s with pc := s.pc + 1#16, run := .faulted (.invalidPort (s.pc - 1#16) p) }
    (p ∉ parameters.inPorts → exec (.inPort p) s = .next faulted) ∧
    (p ∉ parameters.outPorts → exec (.outPort p) s = .next faulted)

/-- R233. The wrap of PC at 0xFFFF (R29) is the spec's decision D8, what IR holds (R31) D19. -/
def Obligations.NopOnlyAdvancesPc : Prop :=
  ∀ s : State,
    exec .nop s = .next s ∧
    (s.run = .running → readByte s.pc s = 0x00#8 → step s = .next { s with pc := s.pc + 1#16, ir := 0x00#8 })

/-- R232, and R263, R267, R268 (the host actions change no run state). That PC is one past HLT is derived in R232 from R90; its wrap at 0xFFFF is the spec's decision D8, what IR holds D19. -/
def Obligations.HltHaltsUntilReset : Prop :=
  (∀ s : State, exec .hlt s = .next { s with run := .halted }) ∧
  (∀ s : State, s.run = .running → readByte s.pc s = 0x76#8 →
    step s = .next { s with pc := s.pc + 1#16, ir := 0x76#8, run := .halted }) ∧
  (∀ (i : Instr) (s t : State), exec i s = .next t → s.run ≠ .halted → t.run = .halted → i = .hlt) ∧
  (∀ s t : State, step s = .next t → s.run ≠ .halted → t.run = .halted → t.ir = 0x76#8) ∧
  ∀ s : State, s.run = .halted → (∀ t, step s = .next t → t.run = .halted) ∧
    (∀ x : HostAction, x ≠ .reset → (hostAct x s).run = .halted) ∧ (hostAct .reset s).run = .running

/-- R240, and what each of the four shifts in (R241 to R244; their opcodes are the spec's decision D1). -/
def Obligations.RotatesMoveOneBit : Prop :=
  ∀ s : State,
    let old := s.a.getLsbD
    let left := fun (i : Instr) (low : Bool) => ∃ t, exec i s = .next t ∧
      t = { s with a := t.a, flags := { s.flags with cy := old 7 } } ∧
      ∀ k < 8, t.a.getLsbD k = if k = 0 then low else old (k - 1)
    let right := fun (i : Instr) (high : Bool) => ∃ t, exec i s = .next t ∧
      t = { s with a := t.a, flags := { s.flags with cy := old 0 } } ∧
      ∀ k < 8, t.a.getLsbD k = if k = 7 then high else old (k + 1)
    left .rlc (old 7) ∧ left .ral s.flags.cy ∧ right .rrc (old 0) ∧ right .rar s.flags.cy

/-- The first sentence of R34. Rows of its table rest on the spec's decisions D4, D5, D15, D16, D21 and D26. -/
def Obligations.OnlyListedInstructionsWriteFlags : Prop :=
  ∀ (i : Instr) (s t : State), exec i s = .next t →
    (t.flags ≠ s.flags →
      (∃ op o, i = .alu op o) ∨ (∃ op v, i = .aluImm op v) ∨ (∃ o, i = .inr o ∨ i = .dcr o) ∨ i = .popPsw ∨
      (∃ p, i = .dad p) ∨ i = .rlc ∨ i = .rrc ∨ i = .ral ∨ i = .rar ∨ i = .stc ∨ i = .cmc) ∧
    ({ t.flags with cy := s.flags.cy } ≠ s.flags →
      (∃ op o, i = .alu op o) ∨ (∃ op v, i = .aluImm op v) ∨ (∃ o, i = .inr o ∨ i = .dcr o) ∨ i = .popPsw)

/-- R64: no other instruction accesses memory beyond its own fetch. -/
def Obligations.OnlyStoringInstructionsWriteMemory : Prop :=
  ∀ (i : Instr) (s t : State), exec i s = .next t → t.mem ≠ s.mem →
    (∃ r, i = .movToM r) ∨ (∃ v, i = .mviM v) ∨ i = .inrM ∨ i = .dcrM ∨ (∃ a, i = .sta a ∨ i = .shld a) ∨
    (∃ p, i = .stax p) ∨ (∃ p, i = .push p) ∨ (∃ a, i = .call a) ∨ (∃ cond a, i = .callIf cond a) ∨ i = .xthl

/-- R25, R30, R38. The use of W and Z is the spec's decision D12. -/
def Obligations.SpScratchAndPortsHaveFewWriters : Prop :=
  ∀ (i : Instr) (s t : State), exec i s = .next t →
    (t.sp ≠ s.sp → (∃ v, i = .lxiSp v) ∨ i = .inxSp ∨ i = .dcxSp ∨ i = .sphl ∨ (∃ p, i = .push p ∨ i = .pop p) ∨
      (∃ a, i = .call a) ∨ i = .ret ∨ (∃ cond, i = .returnIf cond) ∨ ∃ cond a, i = .callIf cond a) ∧
    (∀ op lo hi, encode i = [op, lo, hi] → t.z = lo ∧ t.w = hi) ∧
    ((encode i).length ≠ 3 → t.z = s.z ∧ t.w = s.w) ∧
    t.inp = s.inp ∧ (t.outp ≠ s.outp → ∃ p, i = .outPort p)

/-- R41, R258. Which ports are defined is the spec's decision D10 (log 1). -/
def Obligations.OnlyHltHaltsAndOnlyPortsFault : Prop :=
  ∀ (i : Instr) (s t : State), exec i s = .next t → t.run ≠ s.run →
    (i = .hlt ∧ t.run = .halted) ∨
    ∃ p, (i = .inPort p ∧ p ∉ parameters.inPorts ∨ i = .outPort p ∧ p ∉ parameters.outPorts) ∧
      t.run = .faulted (.invalidPort (s.pc - 1#16) p)

/-- Safety.lean's Inv at power-on; the canonical forms are the model's own (log 6). -/
def Obligations.ResetMeetsInvariant : Prop :=
  Inv State.reset

/-- R251, R252, R253, R255, R274 (what a fault leaves), R232, R38, R60; the canonical forms are the model's own (log 6). -/
def Obligations.StepKeepsInvariant : Prop :=
  ∀ s t : State, Inv s → step s = .next t → Inv t

/-- R262, R263, R267, R268: what the host can do between instructions. The canonical forms in Inv are the model's own (log 6), that an undefined port has no transition is log 8, the failures at bad addresses are the spec's decision D25. -/
def Obligations.HostActionsKeepInvariant : Prop :=
  (∀ (x : HostAction) (s : State), Inv s → Inv (hostAct x s)) ∧
  (∀ (bytes : List Int) (start : Int) (s t : State) (e : Fault),
    (hostLoad bytes start s = .ok t → hostAct (.load bytes start) s = t) ∧
    (hostLoad bytes start s = .error e → hostAct (.load bytes start) s = s)) ∧
  (∀ (a v : Int) (s t : State) (e : Fault),
    (hostPoke a v s = .ok t → hostAct (.poke a v) s = t) ∧ (hostPoke a v s = .error e → hostAct (.poke a v) s = s)) ∧
  ∀ (p v : Byte) (s t : State),
    (hostWritePort p v s = some t → hostAct (.writePort p v) s = t) ∧
    (hostWritePort p v s = none → hostAct (.writePort p v) s = s)

/-- R25: no instruction reads a value of W or Z left by an earlier one. The spec's decision D12. -/
def Obligations.ScratchRegistersAreDead : Prop :=
  ∀ s t : State, SameButScratch s t →
    ∃ s' t', step s = .next s' ∧ step t = .next t' ∧ SameButScratch s' t'

/-- R255, R263. A negative start is the spec's decision D25; that it is looked at first is log 7, that a start at or above N is judged by the size alone log 12. -/
def Obligations.LoadPlacesBytesOrChangesNothing : Prop :=
  ∀ (bytes : List Int) (start : Int) (s : State),
    (start < 0 → hostLoad bytes start s = .error (.outOfBounds start)) ∧
    (0 ≤ start → 65536 < start + bytes.length → hostLoad bytes start s = .error .programTooLarge) ∧
    (0 ≤ start → start + bytes.length ≤ 65536 → ∃ t, hostLoad bytes start s = .ok t ∧
      t = { s with mem := t.mem } ∧
      ∀ a : Word, readByte a t =
        if start ≤ a.toNat ∧ (a.toNat : Int) < start + bytes.length
        then BitVec.ofInt 8 (bytes.getD (a.toNat - start.toNat) 0) else readByte a s)

/-- R253, R267, R268. The failures are the spec's decision D25, the port access D10. -/
def Obligations.PeekPokeAndPortAccess : Prop :=
  (∀ (a v : Int) (s : State),
    (0 ≤ a → a < 65536 → hostPeek a s = .ok (readByte (BitVec.ofInt 16 a) s) ∧
      ∃ t, hostPoke a v s = .ok t ∧ t = { s with mem := t.mem } ∧
        StoresByte (BitVec.ofInt 16 a) (BitVec.ofInt 8 v) s t) ∧
    (a < 0 ∨ 65536 ≤ a → hostPeek a s = .error (.outOfBounds a) ∧ hostPoke a v s = .error (.outOfBounds a))) ∧
  ∀ (p v : Byte) (s : State),
    (p ∈ parameters.inPorts → ∃ t, hostWritePort p v s = some t ∧ t = { s with inp := t.inp } ∧
      ∀ q, inputPort q t = if q = p then v else inputPort q s) ∧
    (p ∈ parameters.outPorts → hostReadPort p s = some (outputPort p s))

/-- R92, R264, R266. Steps and runs of a stopped machine are the spec's decision D9; the bound on steps is log 11. -/
def Obligations.StepAndRunReportTheRunState : Prop :=
  (∀ s : State, ∃ t, step s = .next t ∧
    ((t.run = .running ∧ hostStep s = .next (t, .ok false)) ∨ (t.run = .halted ∧ hostStep s = .next (t, .ok true)) ∨
      ∃ f, t.run = .faulted f ∧ hostStep s = .next (t, .error f))) ∧
  (∀ (n : Nat) (s t : State) (r : Except Fault Unit), hostRun n s = some (t, r) →
    ((EndedWell t ∧ r = .ok ()) ∨ ∃ f, t.run = .faulted f ∧ r = .error f) ∧
    ∀ k, hostRun (n + k) s = some (t, r)) ∧
  (∀ (n : Nat) (s : State), s.run ≠ .running → ∃ r, hostRun n s = some (s, r)) ∧
  (∀ (n : Nat) (s t : State), s.run = .running → step s = .next t → hostRun (n + 1) s = hostRun n t) ∧
  ∀ (n : Nat) (s t : State), Host.Core.run Sys2Proof.core n s = .next t → t.run ≠ .running →
    ∃ r, hostRun n s = some (t, r)
end

