-- ==== Sys2Proof/Laws/Bits.lean ====
section
/-! SUPPORT. What the bit operations do (Machine/Bits.lean). -/

namespace Sys2Proof.Machine

theorem getLsbD_mkWord (hi lo : Byte) (k : Nat) :
    (mkWord hi lo).getLsbD k = if k < 8 then lo.getLsbD k else hi.getLsbD (k - 8) :=
  BitVec.getLsbD_append

@[simp] theorem hiByte_mkWord (hi lo : Byte) : hiByte (mkWord hi lo) = hi := by
  apply BitVec.eq_of_getLsbD_eq
  intro k hk
  simp [hiByte, getLsbD_mkWord, hk]

@[simp] theorem loByte_mkWord (hi lo : Byte) : loByte (mkWord hi lo) = lo := by
  apply BitVec.eq_of_getLsbD_eq
  intro k hk
  simp [loByte, getLsbD_mkWord, hk]

@[simp] theorem mkWord_hi_lo (v : Word) : mkWord (hiByte v) (loByte v) = v := by
  apply BitVec.eq_of_getLsbD_eq
  intro k hk
  by_cases h : k < 8
  · simp [loByte, getLsbD_mkWord, h]
  · simp [hiByte, getLsbD_mkWord, h, show k - 8 < 8 by omega,
      show 8 + (k - 8) = k by omega]

theorem toNat_hiByte (v : Word) : (hiByte v).toNat = v.toNat / 256 := by
  have := v.isLt
  simp [hiByte, BitVec.extractLsb'_toNat, Nat.shiftRight_eq_div_pow]
  omega

theorem toNat_loByte (v : Word) : (loByte v).toNat = v.toNat % 256 := by
  simp [loByte, BitVec.extractLsb'_toNat]

theorem toNat_mkWord (hi lo : Byte) : (mkWord hi lo).toNat = hi.toNat * 256 + lo.toNat := by
  have h := toNat_hiByte (mkWord hi lo)
  have l := toNat_loByte (mkWord hi lo)
  rw [hiByte_mkWord] at h
  rw [loByte_mkWord] at l
  omega

/-- An exact result narrowed to a byte is its remainder, also when it is negative. -/
theorem toNat_u8 (t : Int) : ((u8 t).toNat : Int) = t % 256 := by
  simp only [u8, BitVec.toNat_ofInt]
  omega

theorem toNat_u8_natCast (n : Nat) : (u8 (n : Int)).toNat = n % 256 := by
  have := toNat_u8 n
  omega

/-- An exact result narrowed to a word is its remainder. -/
theorem toNat_u16 (t : Int) : ((u16 t).toNat : Int) = t % 65536 := by
  simp only [u16, BitVec.toNat_ofInt]
  omega

theorem toNat_u16_natCast (n : Nat) : (u16 (n : Int)).toNat = n % 65536 := by
  have := toNat_u16 n
  omega

/-- Bit 7 of a byte says whether the byte is at least 128. -/
theorem getLsbD_seven (v : Byte) : v.getLsbD 7 = true ↔ 128 ≤ v.toNat := by
  have : v.getLsbD 7 = v.msb := by simp [BitVec.msb_eq_getLsbD_last]
  rw [this, BitVec.msb_eq_decide, decide_eq_true_iff]

/-- Two words are the same exactly when their numbers are. -/
theorem toNat_inj_word (a b : Word) : a.toNat = b.toNat ↔ a = b := BitVec.toNat_inj

end Sys2Proof.Machine
end

