-- ==== Sys2Proof/Laws/Cells.lean ====
section
/-! SUPPORT. What reading and writing one cell does, and that a write keeps the canonical form (Machine/Ops.lean). -/

namespace Sys2Proof.Machine

@[simp] theorem Cells.read_nil (n : Nat) : Cells.read [] n = unlisted := rfl

theorem Cells.read_erase_same (m : Cells) (n : Nat) : Cells.read (Cells.erase m n) n = unlisted := by
  induction m with
  | nil => rfl
  | cons p rest ih =>
    obtain ⟨k, v⟩ := p
    by_cases h : k = n <;> simp [Cells.erase, Cells.read, h, ih]

theorem Cells.read_erase_other (m : Cells) {n k : Nat} (h : k ≠ n) :
    Cells.read (Cells.erase m n) k = Cells.read m k := by
  induction m with
  | nil => rfl
  | cons p rest ih =>
    obtain ⟨j, v⟩ := p
    by_cases hj : j = n
    · subst hj
      simp [Cells.erase, Cells.read, Ne.symm h, ih]
    · simp [Cells.erase, Cells.read, hj, ih]

theorem Cells.read_insert_same (m : Cells) (n : Nat) (v : Byte) (h : ∀ p ∈ m, p.1 ≠ n) :
    Cells.read (Cells.insert m n v) n = v := by
  induction m with
  | nil => simp [Cells.insert, Cells.read]
  | cons p rest ih =>
    obtain ⟨k, u⟩ := p
    have hk : k ≠ n := h (k, u) (by simp)
    have hr := ih fun q hq => h q (List.mem_cons_of_mem _ hq)
    by_cases hlt : n < k <;> simp [Cells.insert, Cells.read, hlt, hk, hr]

theorem Cells.read_insert_other (m : Cells) {n k : Nat} (v : Byte) (h : k ≠ n) :
    Cells.read (Cells.insert m n v) k = Cells.read m k := by
  induction m with
  | nil => simp [Cells.insert, Cells.read, Ne.symm h]
  | cons p rest ih =>
    obtain ⟨j, u⟩ := p
    by_cases hlt : n < j
    · simp [Cells.insert, Cells.read, hlt, Ne.symm h]
    · simp [Cells.insert, Cells.read, hlt, ih]

theorem Cells.mem_erase {m : Cells} {n : Nat} {p : Host.Cell} :
    p ∈ Cells.erase m n ↔ p ∈ m ∧ p.1 ≠ n := by
  induction m with
  | nil => simp [Cells.erase]
  | cons q rest ih =>
    obtain ⟨k, v⟩ := q
    by_cases h : k = n
    · simp only [Cells.erase, h, if_true, ih, List.mem_cons]
      constructor
      · exact fun hp => ⟨.inr hp.1, hp.2⟩
      · rintro ⟨rfl | hp, hn⟩
        · exact absurd rfl hn
        · exact ⟨hp, hn⟩
    · simp only [Cells.erase, h, if_false, List.mem_cons, ih]
      constructor
      · rintro (rfl | hp)
        · exact ⟨.inl rfl, h⟩
        · exact ⟨.inr hp.1, hp.2⟩
      · rintro ⟨rfl | hp, hn⟩
        · exact .inl rfl
        · exact .inr ⟨hp, hn⟩

theorem Cells.mem_insert {m : Cells} {n : Nat} {v : Byte} {p : Host.Cell} :
    p ∈ Cells.insert m n v ↔ p = (n, v) ∨ p ∈ m := by
  induction m with
  | nil => simp [Cells.insert]
  | cons q rest ih =>
    obtain ⟨k, u⟩ := q
    by_cases h : n < k <;> simp [Cells.insert, h, ih, or_left_comm]

/-- Reading after a write: the written cell gives the value, every other cell is as before. -/
theorem Cells.read_write (m : Cells) (n k : Nat) (v : Byte) :
    Cells.read (Cells.write m n v) k = if k = n then v else Cells.read m k := by
  unfold Cells.write
  by_cases hk : k = n
  · subst hk
    by_cases hv : v = unlisted
    · simp [hv, Cells.read_erase_same]
    · simp only [hv, if_false, if_true]
      exact Cells.read_insert_same _ _ _ fun p hp => (Cells.mem_erase.1 hp).2
  · by_cases hv : v = unlisted
    · simp [hv, hk, Cells.read_erase_other m hk]
    · simp [hv, hk, Cells.read_insert_other _ v hk, Cells.read_erase_other m hk]

theorem Cells.erase_pairwise {m : Cells} (n : Nat) (h : m.Pairwise fun p q => p.1 < q.1) :
    (Cells.erase m n).Pairwise fun p q => p.1 < q.1 := by
  induction m with
  | nil => simp [Cells.erase]
  | cons q rest ih =>
    obtain ⟨k, v⟩ := q
    rw [List.pairwise_cons] at h
    by_cases hk : k = n
    · simpa [Cells.erase, hk] using ih h.2
    · simp only [Cells.erase, hk, if_false, List.pairwise_cons]
      exact ⟨fun p hp => h.1 p (Cells.mem_erase.1 hp).1, ih h.2⟩

theorem Cells.insert_pairwise {m : Cells} (n : Nat) (v : Byte) (h : m.Pairwise fun p q => p.1 < q.1)
    (hn : ∀ p ∈ m, p.1 ≠ n) : (Cells.insert m n v).Pairwise fun p q => p.1 < q.1 := by
  induction m with
  | nil => simp [Cells.insert]
  | cons q rest ih =>
    obtain ⟨k, u⟩ := q
    rw [List.pairwise_cons] at h
    by_cases hlt : n < k
    · simp only [Cells.insert, hlt, if_true, List.pairwise_cons, List.mem_cons]
      refine ⟨?_, h.1, h.2⟩
      rintro p (rfl | hp)
      · exact hlt
      · exact hlt.trans (h.1 p hp)
    · have hkn : k < n := lt_of_le_of_ne (not_lt.1 hlt) (hn (k, u) (by simp))
      simp only [Cells.insert, hlt, if_false, List.pairwise_cons]
      refine ⟨fun p hp => ?_, ih h.2 fun p hp => hn p (List.mem_cons_of_mem _ hp)⟩
      rcases Cells.mem_insert.1 hp with rfl | hp
      · exact hkn
      · exact h.1 p hp

/-- The cells listed after a write: the old ones, but for the written cell, which is listed unless it holds the
unlisted value. -/
theorem Cells.mem_write {m : Cells} {n : Nat} {v : Byte} {p : Host.Cell} (h : p ∈ Cells.write m n v) :
    (p = (n, v) ∧ v ≠ unlisted) ∨ (p ∈ m ∧ p.1 ≠ n) := by
  unfold Cells.write at h
  split at h
  · exact .inr (Cells.mem_erase.1 h)
  · rename_i hv
    rcases Cells.mem_insert.1 h with rfl | hp
    · exact .inl ⟨rfl, hv⟩
    · exact .inr (Cells.mem_erase.1 hp)

/-- A write keeps the canonical form. -/
theorem Cells.wf_write {size : Nat} {m : Cells} (h : Cells.wf size m) {n : Nat} (hn : n < size) (v : Byte) :
    Cells.wf size (Cells.write m n v) := by
  refine ⟨?_, fun p hp => ?_⟩
  · unfold Cells.write
    split
    · exact Cells.erase_pairwise n h.1
    · exact Cells.insert_pairwise n v (Cells.erase_pairwise n h.1) fun p hp => (Cells.mem_erase.1 hp).2
  · rcases Cells.mem_write hp with ⟨rfl, hv⟩ | ⟨hp, -⟩
    · exact ⟨hn, hv⟩
    · exact h.2 p hp

theorem Memory.wf_nil : Memory.wf [] := by simp [Memory.wf, Cells.wf]

/-- A write at an address keeps the canonical form of memory. -/
theorem Memory.wf_write {m : Cells} (h : Memory.wf m) (a : Word) (v : Byte) :
    Memory.wf (Cells.write m a.toNat v) := Cells.wf_write h a.isLt v

theorem Ports.wf_nil (defined : List Byte) : Ports.wf defined [] := by simp [Ports.wf, Cells.wf]

/-- A write to a defined port keeps the canonical form of the port registers. -/
theorem Ports.wf_write {defined : List Byte} {m : Cells} (h : Ports.wf defined m) {p : Byte} (hp : p ∈ defined)
    (v : Byte) : Ports.wf defined (Cells.write m p.toNat v) := by
  refine ⟨Cells.wf_write h.1 p.isLt v, fun q hq => ?_⟩
  rcases Cells.mem_write hq with ⟨rfl, -⟩ | ⟨hq, -⟩
  · simpa using hp
  · exact h.2 q hq

end Sys2Proof.Machine
end

