-- ==== Sys2Proof/Laws/Families.lean ====
section
/-! SUPPORT. The instructions by family (Syntax.lean): a claim about every instruction follows from one case per
family, and exec of each family is the next state its shared operation gives. -/

namespace Sys2Proof

open Sys2Proof.Machine

/-- A property holds of every instruction if it holds of every family and of every instruction without one. -/
theorem Instr.byFamily {P : Instr → Prop}
    (mov : ∀ (dst src : Reg), P (Instr.mov dst src))
    (movFromM : ∀ (dst : Reg), P (Instr.movFromM dst))
    (movToM : ∀ (src : Reg), P (Instr.movToM src))
    (mvi : ∀ (dst : Operand) (v : Byte), P (Instr.mvi dst v))
    (inr : ∀ (o : Operand), P (Instr.inr o))
    (dcr : ∀ (o : Operand), P (Instr.dcr o))
    (alu : ∀ (op : AluOp) (o : Operand), P (Instr.alu op o))
    (aluImm : ∀ (op : AluOp) (v : Byte), P (Instr.aluImm op v))
    (lxi : ∀ (p : Pair) (v : Word), P (Instr.lxi p v))
    (inx : ∀ (p : Pair), P (Instr.inx p))
    (dcx : ∀ (p : Pair), P (Instr.dcx p))
    (dad : ∀ (p : Pair), P (Instr.dad p))
    (ldax : ∀ (p : IndexPair), P (Instr.ldax p))
    (stax : ∀ (p : IndexPair), P (Instr.stax p))
    (push : ∀ (p : StackPair), P (Instr.push p))
    (pop : ∀ (p : StackPair), P (Instr.pop p))
    (jumpIf : ∀ (cond : Cond) (a : Word), P (Instr.jumpIf cond a))
    (callIf : ∀ (cond : Cond) (a : Word), P (Instr.callIf cond a))
    (returnIf : ∀ (cond : Cond), P (Instr.returnIf cond))
    (nop : P .nop)
    (rlc : P .rlc)
    (rrc : P .rrc)
    (ral : P .ral)
    (rar : P .rar)
    (shld : ∀ v : Word, P (.shld v))
    (lhld : ∀ v : Word, P (.lhld v))
    (cma : P .cma)
    (sta : ∀ v : Word, P (.sta v))
    (stc : P .stc)
    (lda : ∀ v : Word, P (.lda v))
    (cmc : P .cmc)
    (hlt : P .hlt)
    (jmp : ∀ v : Word, P (.jmp v))
    (ret : P .ret)
    (call : ∀ v : Word, P (.call v))
    (outPort : ∀ v : Byte, P (.outPort v))
    (inPort : ∀ v : Byte, P (.inPort v))
    (xthl : P .xthl)
    (pchl : P .pchl)
    (xchg : P .xchg)
    (sphl : P .sphl) :
    ∀ i, P i := by
  intro i
  cases i with
  | nop => exact nop
  | lxiB v => exact lxi .bc v
  | staxB => exact stax .bc
  | inxB => exact inx .bc
  | inrB => exact inr (.reg .b)
  | dcrB => exact dcr (.reg .b)
  | mviB v => exact mvi (.reg .b) v
  | rlc => exact rlc
  | dadB => exact dad .bc
  | ldaxB => exact ldax .bc
  | dcxB => exact dcx .bc
  | inrC => exact inr (.reg .c)
  | dcrC => exact dcr (.reg .c)
  | mviC v => exact mvi (.reg .c) v
  | rrc => exact rrc
  | lxiD v => exact lxi .de v
  | staxD => exact stax .de
  | inxD => exact inx .de
  | inrD => exact inr (.reg .d)
  | dcrD => exact dcr (.reg .d)
  | mviD v => exact mvi (.reg .d) v
  | ral => exact ral
  | dadD => exact dad .de
  | ldaxD => exact ldax .de
  | dcxD => exact dcx .de
  | inrE => exact inr (.reg .e)
  | dcrE => exact dcr (.reg .e)
  | mviE v => exact mvi (.reg .e) v
  | rar => exact rar
  | lxiH v => exact lxi .hl v
  | shld v => exact shld v
  | inxH => exact inx .hl
  | inrH => exact inr (.reg .h)
  | dcrH => exact dcr (.reg .h)
  | mviH v => exact mvi (.reg .h) v
  | dadH => exact dad .hl
  | lhld v => exact lhld v
  | dcxH => exact dcx .hl
  | inrL => exact inr (.reg .l)
  | dcrL => exact dcr (.reg .l)
  | mviL v => exact mvi (.reg .l) v
  | cma => exact cma
  | lxiSp v => exact lxi .sp v
  | sta v => exact sta v
  | inxSp => exact inx .sp
  | inrM => exact inr .m
  | dcrM => exact dcr .m
  | mviM v => exact mvi .m v
  | stc => exact stc
  | dadSp => exact dad .sp
  | lda v => exact lda v
  | dcxSp => exact dcx .sp
  | inrA => exact inr (.reg .a)
  | dcrA => exact dcr (.reg .a)
  | mviA v => exact mvi (.reg .a) v
  | cmc => exact cmc
  | movBB => exact mov .b .b
  | movBC => exact mov .b .c
  | movBD => exact mov .b .d
  | movBE => exact mov .b .e
  | movBH => exact mov .b .h
  | movBL => exact mov .b .l
  | movBM => exact movFromM .b
  | movBA => exact mov .b .a
  | movCB => exact mov .c .b
  | movCC => exact mov .c .c
  | movCD => exact mov .c .d
  | movCE => exact mov .c .e
  | movCH => exact mov .c .h
  | movCL => exact mov .c .l
  | movCM => exact movFromM .c
  | movCA => exact mov .c .a
  | movDB => exact mov .d .b
  | movDC => exact mov .d .c
  | movDD => exact mov .d .d
  | movDE => exact mov .d .e
  | movDH => exact mov .d .h
  | movDL => exact mov .d .l
  | movDM => exact movFromM .d
  | movDA => exact mov .d .a
  | movEB => exact mov .e .b
  | movEC => exact mov .e .c
  | movED => exact mov .e .d
  | movEE => exact mov .e .e
  | movEH => exact mov .e .h
  | movEL => exact mov .e .l
  | movEM => exact movFromM .e
  | movEA => exact mov .e .a
  | movHB => exact mov .h .b
  | movHC => exact mov .h .c
  | movHD => exact mov .h .d
  | movHE => exact mov .h .e
  | movHH => exact mov .h .h
  | movHL => exact mov .h .l
  | movHM => exact movFromM .h
  | movHA => exact mov .h .a
  | movLB => exact mov .l .b
  | movLC => exact mov .l .c
  | movLD => exact mov .l .d
  | movLE => exact mov .l .e
  | movLH => exact mov .l .h
  | movLL => exact mov .l .l
  | movLM => exact movFromM .l
  | movLA => exact mov .l .a
  | movMB => exact movToM .b
  | movMC => exact movToM .c
  | movMD => exact movToM .d
  | movME => exact movToM .e
  | movMH => exact movToM .h
  | movML => exact movToM .l
  | hlt => exact hlt
  | movMA => exact movToM .a
  | movAB => exact mov .a .b
  | movAC => exact mov .a .c
  | movAD => exact mov .a .d
  | movAE => exact mov .a .e
  | movAH => exact mov .a .h
  | movAL => exact mov .a .l
  | movAM => exact movFromM .a
  | movAA => exact mov .a .a
  | addB => exact alu .add (.reg .b)
  | addC => exact alu .add (.reg .c)
  | addD => exact alu .add (.reg .d)
  | addE => exact alu .add (.reg .e)
  | addH => exact alu .add (.reg .h)
  | addL => exact alu .add (.reg .l)
  | addM => exact alu .add .m
  | addA => exact alu .add (.reg .a)
  | adcB => exact alu .adc (.reg .b)
  | adcC => exact alu .adc (.reg .c)
  | adcD => exact alu .adc (.reg .d)
  | adcE => exact alu .adc (.reg .e)
  | adcH => exact alu .adc (.reg .h)
  | adcL => exact alu .adc (.reg .l)
  | adcM => exact alu .adc .m
  | adcA => exact alu .adc (.reg .a)
  | subB => exact alu .sub (.reg .b)
  | subC => exact alu .sub (.reg .c)
  | subD => exact alu .sub (.reg .d)
  | subE => exact alu .sub (.reg .e)
  | subH => exact alu .sub (.reg .h)
  | subL => exact alu .sub (.reg .l)
  | subM => exact alu .sub .m
  | subA => exact alu .sub (.reg .a)
  | sbbB => exact alu .sbb (.reg .b)
  | sbbC => exact alu .sbb (.reg .c)
  | sbbD => exact alu .sbb (.reg .d)
  | sbbE => exact alu .sbb (.reg .e)
  | sbbH => exact alu .sbb (.reg .h)
  | sbbL => exact alu .sbb (.reg .l)
  | sbbM => exact alu .sbb .m
  | sbbA => exact alu .sbb (.reg .a)
  | anaB => exact alu .ana (.reg .b)
  | anaC => exact alu .ana (.reg .c)
  | anaD => exact alu .ana (.reg .d)
  | anaE => exact alu .ana (.reg .e)
  | anaH => exact alu .ana (.reg .h)
  | anaL => exact alu .ana (.reg .l)
  | anaM => exact alu .ana .m
  | anaA => exact alu .ana (.reg .a)
  | xraB => exact alu .xra (.reg .b)
  | xraC => exact alu .xra (.reg .c)
  | xraD => exact alu .xra (.reg .d)
  | xraE => exact alu .xra (.reg .e)
  | xraH => exact alu .xra (.reg .h)
  | xraL => exact alu .xra (.reg .l)
  | xraM => exact alu .xra .m
  | xraA => exact alu .xra (.reg .a)
  | oraB => exact alu .ora (.reg .b)
  | oraC => exact alu .ora (.reg .c)
  | oraD => exact alu .ora (.reg .d)
  | oraE => exact alu .ora (.reg .e)
  | oraH => exact alu .ora (.reg .h)
  | oraL => exact alu .ora (.reg .l)
  | oraM => exact alu .ora .m
  | oraA => exact alu .ora (.reg .a)
  | cmpB => exact alu .cmp (.reg .b)
  | cmpC => exact alu .cmp (.reg .c)
  | cmpD => exact alu .cmp (.reg .d)
  | cmpE => exact alu .cmp (.reg .e)
  | cmpH => exact alu .cmp (.reg .h)
  | cmpL => exact alu .cmp (.reg .l)
  | cmpM => exact alu .cmp .m
  | cmpA => exact alu .cmp (.reg .a)
  | rnz => exact returnIf .nz
  | popB => exact pop .bc
  | jnz v => exact jumpIf .nz v
  | jmp v => exact jmp v
  | cnz v => exact callIf .nz v
  | pushB => exact push .bc
  | adi v => exact aluImm .add v
  | rz => exact returnIf .z
  | ret => exact ret
  | jz v => exact jumpIf .z v
  | cz v => exact callIf .z v
  | call v => exact call v
  | aci v => exact aluImm .adc v
  | rnc => exact returnIf .nc
  | popD => exact pop .de
  | jnc v => exact jumpIf .nc v
  | outPort v => exact outPort v
  | cnc v => exact callIf .nc v
  | pushD => exact push .de
  | sui v => exact aluImm .sub v
  | rc => exact returnIf .c
  | jc v => exact jumpIf .c v
  | inPort v => exact inPort v
  | cc v => exact callIf .c v
  | sbi v => exact aluImm .sbb v
  | rpo => exact returnIf .po
  | popH => exact pop .hl
  | jpo v => exact jumpIf .po v
  | xthl => exact xthl
  | cpo v => exact callIf .po v
  | pushH => exact push .hl
  | ani v => exact aluImm .ana v
  | rpe => exact returnIf .pe
  | pchl => exact pchl
  | jpe v => exact jumpIf .pe v
  | xchg => exact xchg
  | cpe v => exact callIf .pe v
  | xri v => exact aluImm .xra v
  | rp => exact returnIf .p
  | popPsw => exact pop .psw
  | jp v => exact jumpIf .p v
  | cp v => exact callIf .p v
  | pushPsw => exact push .psw
  | ori v => exact aluImm .ora v
  | rm => exact returnIf .m
  | sphl => exact sphl
  | jm v => exact jumpIf .m v
  | cm v => exact callIf .m v
  | cpi v => exact aluImm .cmp v

namespace Machine

/-- What an operation on A does with its second operand (R96). -/
def aluByte (op : AluOp) (v : Byte) (s : State) : State :=
  match op with
  | .add => addByte v s
  | .adc => adcByte v s
  | .sub => subByte v s
  | .sbb => sbbByte v s
  | .ana => andByte v s
  | .xra => xorByte v s
  | .ora => orByte v s
  | .cmp => cmpByte v s

variable (s : State)

@[simp] theorem exec_mov (dst src : Reg) : exec (.mov dst src) s = .next (copyRegister dst src s) := by
  cases dst <;> cases src <;> rfl
@[simp] theorem exec_movFromM (dst : Reg) : exec (.movFromM dst) s = .next (loadRegister dst s) := by
  cases dst <;> rfl
@[simp] theorem exec_movToM (src : Reg) : exec (.movToM src) s = .next (storeRegister src s) := by
  cases src <;> rfl
@[simp] theorem exec_mvi (o : Operand) (v : Byte) : exec (.mvi o v) s = .next (loadImmediate o v s) := by
  rcases o with ⟨⟨⟩⟩ | _ <;> rfl
@[simp] theorem exec_inr (o : Operand) : exec (.inr o) s = .next (incrementOperand parameters o s) := by
  rcases o with ⟨⟨⟩⟩ | _ <;> rfl
@[simp] theorem exec_dcr (o : Operand) : exec (.dcr o) s = .next (decrementOperand parameters o s) := by
  rcases o with ⟨⟨⟩⟩ | _ <;> rfl
@[simp] theorem exec_alu (op : AluOp) (o : Operand) :
    exec (.alu op o) s = .next (aluByte op (readOperand o s) s) := by
  cases op <;> rcases o with ⟨⟨⟩⟩ | _ <;> rfl
@[simp] theorem exec_aluImm (op : AluOp) (v : Byte) :
    exec (.aluImm op v) s = .next (aluByte op v (takeByte s)) := by
  cases op <;> rfl
@[simp] theorem exec_lxi (p : Pair) (v : Word) : exec (.lxi p v) s = .next (loadPairImmediate p v s) := by
  cases p <;> rfl
@[simp] theorem exec_inx (p : Pair) : exec (.inx p) s = .next (incrementPair p s) := by cases p <;> rfl
@[simp] theorem exec_dcx (p : Pair) : exec (.dcx p) s = .next (decrementPair p s) := by cases p <;> rfl
@[simp] theorem exec_dad (p : Pair) : exec (.dad p) s = .next (addPair p s) := by cases p <;> rfl
@[simp] theorem exec_ldax (p : IndexPair) : exec (.ldax p) s = .next (loadIndexed p s) := by cases p <;> rfl
@[simp] theorem exec_stax (p : IndexPair) : exec (.stax p) s = .next (storeIndexed p s) := by cases p <;> rfl
@[simp] theorem exec_push (p : StackPair) : exec (.push p) s = .next (pushPair p s) := by cases p <;> rfl
@[simp] theorem exec_pop (p : StackPair) : exec (.pop p) s = .next (popPair p s) := by cases p <;> rfl
@[simp] theorem exec_jumpIf (cond : Cond) (a : Word) : exec (.jumpIf cond a) s = .next (jumpWhen cond a s) := by
  cases cond <;> rfl
@[simp] theorem exec_callIf (cond : Cond) (a : Word) : exec (.callIf cond a) s = .next (callWhen cond a s) := by
  cases cond <;> rfl
@[simp] theorem exec_returnIf (cond : Cond) : exec (.returnIf cond) s = .next (returnWhen cond s) := by
  cases cond <;> rfl
@[simp] theorem exec_nop : exec .nop s = .next s := rfl
@[simp] theorem exec_rlc : exec .rlc s = .next (rotateLeft (s.a.getLsbD 7) s) := rfl
@[simp] theorem exec_rrc : exec .rrc s = .next (rotateRight (s.a.getLsbD 0) s) := rfl
@[simp] theorem exec_ral : exec .ral s = .next (rotateLeft s.flags.cy s) := rfl
@[simp] theorem exec_rar : exec .rar s = .next (rotateRight s.flags.cy s) := rfl
@[simp] theorem exec_shld (v : Word) : exec (.shld v) s = .next (storeHLDirect v s) := rfl
@[simp] theorem exec_lhld (v : Word) : exec (.lhld v) s = .next (loadHLDirect v s) := rfl
@[simp] theorem exec_cma : exec .cma s = .next (complementA s) := rfl
@[simp] theorem exec_sta (v : Word) : exec (.sta v) s = .next (storeDirect v s) := rfl
@[simp] theorem exec_stc : exec .stc s = .next (setCarry true s) := rfl
@[simp] theorem exec_lda (v : Word) : exec (.lda v) s = .next (loadDirect v s) := rfl
@[simp] theorem exec_cmc : exec .cmc s = .next (setCarry (!s.flags.cy) s) := rfl
@[simp] theorem exec_hlt : exec .hlt s = .next (halt s) := rfl
@[simp] theorem exec_jmp (v : Word) : exec (.jmp v) s = .next (jumpTo v s) := rfl
@[simp] theorem exec_ret : exec .ret s = .next (returnToCaller s) := rfl
@[simp] theorem exec_call (v : Word) : exec (.call v) s = .next (callTo v s) := rfl
@[simp] theorem exec_outPort (v : Byte) : exec (.outPort v) s = .next (outputTo parameters v s) := rfl
@[simp] theorem exec_inPort (v : Byte) : exec (.inPort v) s = .next (inputFrom parameters v s) := rfl
@[simp] theorem exec_xthl : exec .xthl s = .next (exchangeTopHL s) := rfl
@[simp] theorem exec_pchl : exec .pchl s = .next (jumpToHL s) := rfl
@[simp] theorem exec_xchg : exec .xchg s = .next (exchangeHLDE s) := rfl
@[simp] theorem exec_sphl : exec .sphl s = .next (loadSPFromHL s) := rfl

end Machine

end Sys2Proof
end

