-- ==== Sys2Proof/Laws/State.lean ====
section
/-! SUPPORT. What each shared update does to each field of State: one lemma per field per update. -/

namespace Sys2Proof.Machine

/-! ### writeByte -/

@[simp] theorem writeByte_a (a0 : Word) (v : Byte) (s : State) : (writeByte a0 v s).a = s.a := rfl
@[simp] theorem writeByte_b (a0 : Word) (v : Byte) (s : State) : (writeByte a0 v s).b = s.b := rfl
@[simp] theorem writeByte_c (a0 : Word) (v : Byte) (s : State) : (writeByte a0 v s).c = s.c := rfl
@[simp] theorem writeByte_d (a0 : Word) (v : Byte) (s : State) : (writeByte a0 v s).d = s.d := rfl
@[simp] theorem writeByte_e (a0 : Word) (v : Byte) (s : State) : (writeByte a0 v s).e = s.e := rfl
@[simp] theorem writeByte_h (a0 : Word) (v : Byte) (s : State) : (writeByte a0 v s).h = s.h := rfl
@[simp] theorem writeByte_l (a0 : Word) (v : Byte) (s : State) : (writeByte a0 v s).l = s.l := rfl
@[simp] theorem writeByte_w (a0 : Word) (v : Byte) (s : State) : (writeByte a0 v s).w = s.w := rfl
@[simp] theorem writeByte_z (a0 : Word) (v : Byte) (s : State) : (writeByte a0 v s).z = s.z := rfl
@[simp] theorem writeByte_pc (a0 : Word) (v : Byte) (s : State) : (writeByte a0 v s).pc = s.pc := rfl
@[simp] theorem writeByte_sp (a0 : Word) (v : Byte) (s : State) : (writeByte a0 v s).sp = s.sp := rfl
@[simp] theorem writeByte_ir (a0 : Word) (v : Byte) (s : State) : (writeByte a0 v s).ir = s.ir := rfl
@[simp] theorem writeByte_flags (a0 : Word) (v : Byte) (s : State) : (writeByte a0 v s).flags = s.flags := rfl
@[simp] theorem writeByte_inp (a0 : Word) (v : Byte) (s : State) : (writeByte a0 v s).inp = s.inp := rfl
@[simp] theorem writeByte_outp (a0 : Word) (v : Byte) (s : State) : (writeByte a0 v s).outp = s.outp := rfl
@[simp] theorem writeByte_run (a0 : Word) (v : Byte) (s : State) : (writeByte a0 v s).run = s.run := rfl
@[simp] theorem writeByte_mem (a0 : Word) (v : Byte) (s : State) : (writeByte a0 v s).mem = Cells.write s.mem a0.toNat v := rfl

/-! ### takeByte -/

@[simp] theorem takeByte_a (s : State) : (takeByte s).a = s.a := rfl
@[simp] theorem takeByte_b (s : State) : (takeByte s).b = s.b := rfl
@[simp] theorem takeByte_c (s : State) : (takeByte s).c = s.c := rfl
@[simp] theorem takeByte_d (s : State) : (takeByte s).d = s.d := rfl
@[simp] theorem takeByte_e (s : State) : (takeByte s).e = s.e := rfl
@[simp] theorem takeByte_h (s : State) : (takeByte s).h = s.h := rfl
@[simp] theorem takeByte_l (s : State) : (takeByte s).l = s.l := rfl
@[simp] theorem takeByte_w (s : State) : (takeByte s).w = s.w := rfl
@[simp] theorem takeByte_z (s : State) : (takeByte s).z = s.z := rfl
@[simp] theorem takeByte_pc (s : State) : (takeByte s).pc = s.pc + 1#16 := rfl
@[simp] theorem takeByte_sp (s : State) : (takeByte s).sp = s.sp := rfl
@[simp] theorem takeByte_ir (s : State) : (takeByte s).ir = s.ir := rfl
@[simp] theorem takeByte_flags (s : State) : (takeByte s).flags = s.flags := rfl
@[simp] theorem takeByte_inp (s : State) : (takeByte s).inp = s.inp := rfl
@[simp] theorem takeByte_outp (s : State) : (takeByte s).outp = s.outp := rfl
@[simp] theorem takeByte_run (s : State) : (takeByte s).run = s.run := rfl
@[simp] theorem takeByte_mem (s : State) : (takeByte s).mem = s.mem := rfl

/-! ### takeWord -/

@[simp] theorem takeWord_a (v : Word) (s : State) : (takeWord v s).a = s.a := rfl
@[simp] theorem takeWord_b (v : Word) (s : State) : (takeWord v s).b = s.b := rfl
@[simp] theorem takeWord_c (v : Word) (s : State) : (takeWord v s).c = s.c := rfl
@[simp] theorem takeWord_d (v : Word) (s : State) : (takeWord v s).d = s.d := rfl
@[simp] theorem takeWord_e (v : Word) (s : State) : (takeWord v s).e = s.e := rfl
@[simp] theorem takeWord_h (v : Word) (s : State) : (takeWord v s).h = s.h := rfl
@[simp] theorem takeWord_l (v : Word) (s : State) : (takeWord v s).l = s.l := rfl
@[simp] theorem takeWord_w (v : Word) (s : State) : (takeWord v s).w = hiByte v := rfl
@[simp] theorem takeWord_z (v : Word) (s : State) : (takeWord v s).z = loByte v := rfl
@[simp] theorem takeWord_pc (v : Word) (s : State) : (takeWord v s).pc = s.pc + 2#16 := rfl
@[simp] theorem takeWord_sp (v : Word) (s : State) : (takeWord v s).sp = s.sp := rfl
@[simp] theorem takeWord_ir (v : Word) (s : State) : (takeWord v s).ir = s.ir := rfl
@[simp] theorem takeWord_flags (v : Word) (s : State) : (takeWord v s).flags = s.flags := rfl
@[simp] theorem takeWord_inp (v : Word) (s : State) : (takeWord v s).inp = s.inp := rfl
@[simp] theorem takeWord_outp (v : Word) (s : State) : (takeWord v s).outp = s.outp := rfl
@[simp] theorem takeWord_run (v : Word) (s : State) : (takeWord v s).run = s.run := rfl
@[simp] theorem takeWord_mem (v : Word) (s : State) : (takeWord v s).mem = s.mem := rfl

/-! ### fetchOpcode -/

@[simp] theorem fetchOpcode_a (s : State) : (fetchOpcode s).a = s.a := rfl
@[simp] theorem fetchOpcode_b (s : State) : (fetchOpcode s).b = s.b := rfl
@[simp] theorem fetchOpcode_c (s : State) : (fetchOpcode s).c = s.c := rfl
@[simp] theorem fetchOpcode_d (s : State) : (fetchOpcode s).d = s.d := rfl
@[simp] theorem fetchOpcode_e (s : State) : (fetchOpcode s).e = s.e := rfl
@[simp] theorem fetchOpcode_h (s : State) : (fetchOpcode s).h = s.h := rfl
@[simp] theorem fetchOpcode_l (s : State) : (fetchOpcode s).l = s.l := rfl
@[simp] theorem fetchOpcode_w (s : State) : (fetchOpcode s).w = s.w := rfl
@[simp] theorem fetchOpcode_z (s : State) : (fetchOpcode s).z = s.z := rfl
@[simp] theorem fetchOpcode_pc (s : State) : (fetchOpcode s).pc = s.pc + 1#16 := rfl
@[simp] theorem fetchOpcode_sp (s : State) : (fetchOpcode s).sp = s.sp := rfl
@[simp] theorem fetchOpcode_ir (s : State) : (fetchOpcode s).ir = readByte s.pc s := rfl
@[simp] theorem fetchOpcode_flags (s : State) : (fetchOpcode s).flags = s.flags := rfl
@[simp] theorem fetchOpcode_inp (s : State) : (fetchOpcode s).inp = s.inp := rfl
@[simp] theorem fetchOpcode_outp (s : State) : (fetchOpcode s).outp = s.outp := rfl
@[simp] theorem fetchOpcode_run (s : State) : (fetchOpcode s).run = s.run := rfl
@[simp] theorem fetchOpcode_mem (s : State) : (fetchOpcode s).mem = s.mem := rfl

/-! ### popped -/

@[simp] theorem popped_a (s : State) : (popped s).a = s.a := rfl
@[simp] theorem popped_b (s : State) : (popped s).b = s.b := rfl
@[simp] theorem popped_c (s : State) : (popped s).c = s.c := rfl
@[simp] theorem popped_d (s : State) : (popped s).d = s.d := rfl
@[simp] theorem popped_e (s : State) : (popped s).e = s.e := rfl
@[simp] theorem popped_h (s : State) : (popped s).h = s.h := rfl
@[simp] theorem popped_l (s : State) : (popped s).l = s.l := rfl
@[simp] theorem popped_w (s : State) : (popped s).w = s.w := rfl
@[simp] theorem popped_z (s : State) : (popped s).z = s.z := rfl
@[simp] theorem popped_pc (s : State) : (popped s).pc = s.pc := rfl
@[simp] theorem popped_sp (s : State) : (popped s).sp = s.sp + 1#16 := rfl
@[simp] theorem popped_ir (s : State) : (popped s).ir = s.ir := rfl
@[simp] theorem popped_flags (s : State) : (popped s).flags = s.flags := rfl
@[simp] theorem popped_inp (s : State) : (popped s).inp = s.inp := rfl
@[simp] theorem popped_outp (s : State) : (popped s).outp = s.outp := rfl
@[simp] theorem popped_run (s : State) : (popped s).run = s.run := rfl
@[simp] theorem popped_mem (s : State) : (popped s).mem = s.mem := rfl

/-! ### poppedWord -/

@[simp] theorem poppedWord_a (s : State) : (poppedWord s).a = s.a := rfl
@[simp] theorem poppedWord_b (s : State) : (poppedWord s).b = s.b := rfl
@[simp] theorem poppedWord_c (s : State) : (poppedWord s).c = s.c := rfl
@[simp] theorem poppedWord_d (s : State) : (poppedWord s).d = s.d := rfl
@[simp] theorem poppedWord_e (s : State) : (poppedWord s).e = s.e := rfl
@[simp] theorem poppedWord_h (s : State) : (poppedWord s).h = s.h := rfl
@[simp] theorem poppedWord_l (s : State) : (poppedWord s).l = s.l := rfl
@[simp] theorem poppedWord_w (s : State) : (poppedWord s).w = s.w := rfl
@[simp] theorem poppedWord_z (s : State) : (poppedWord s).z = s.z := rfl
@[simp] theorem poppedWord_pc (s : State) : (poppedWord s).pc = s.pc := rfl
@[simp] theorem poppedWord_sp (s : State) : (poppedWord s).sp = s.sp + 1#16 + 1#16 := rfl
@[simp] theorem poppedWord_ir (s : State) : (poppedWord s).ir = s.ir := rfl
@[simp] theorem poppedWord_flags (s : State) : (poppedWord s).flags = s.flags := rfl
@[simp] theorem poppedWord_inp (s : State) : (poppedWord s).inp = s.inp := rfl
@[simp] theorem poppedWord_outp (s : State) : (poppedWord s).outp = s.outp := rfl
@[simp] theorem poppedWord_run (s : State) : (poppedWord s).run = s.run := rfl
@[simp] theorem poppedWord_mem (s : State) : (poppedWord s).mem = s.mem := rfl

/-! ### push8 -/

@[simp] theorem push8_a (v : Byte) (s : State) : (push8 v s).a = s.a := rfl
@[simp] theorem push8_b (v : Byte) (s : State) : (push8 v s).b = s.b := rfl
@[simp] theorem push8_c (v : Byte) (s : State) : (push8 v s).c = s.c := rfl
@[simp] theorem push8_d (v : Byte) (s : State) : (push8 v s).d = s.d := rfl
@[simp] theorem push8_e (v : Byte) (s : State) : (push8 v s).e = s.e := rfl
@[simp] theorem push8_h (v : Byte) (s : State) : (push8 v s).h = s.h := rfl
@[simp] theorem push8_l (v : Byte) (s : State) : (push8 v s).l = s.l := rfl
@[simp] theorem push8_w (v : Byte) (s : State) : (push8 v s).w = s.w := rfl
@[simp] theorem push8_z (v : Byte) (s : State) : (push8 v s).z = s.z := rfl
@[simp] theorem push8_pc (v : Byte) (s : State) : (push8 v s).pc = s.pc := rfl
@[simp] theorem push8_sp (v : Byte) (s : State) : (push8 v s).sp = s.sp - 1#16 := rfl
@[simp] theorem push8_ir (v : Byte) (s : State) : (push8 v s).ir = s.ir := rfl
@[simp] theorem push8_flags (v : Byte) (s : State) : (push8 v s).flags = s.flags := rfl
@[simp] theorem push8_inp (v : Byte) (s : State) : (push8 v s).inp = s.inp := rfl
@[simp] theorem push8_outp (v : Byte) (s : State) : (push8 v s).outp = s.outp := rfl
@[simp] theorem push8_run (v : Byte) (s : State) : (push8 v s).run = s.run := rfl
@[simp] theorem push8_mem (v : Byte) (s : State) : (push8 v s).mem = Cells.write s.mem (s.sp - 1#16).toNat v := rfl

/-! ### pushWord -/

@[simp] theorem pushWord_a (v : Word) (s : State) : (pushWord v s).a = s.a := rfl
@[simp] theorem pushWord_b (v : Word) (s : State) : (pushWord v s).b = s.b := rfl
@[simp] theorem pushWord_c (v : Word) (s : State) : (pushWord v s).c = s.c := rfl
@[simp] theorem pushWord_d (v : Word) (s : State) : (pushWord v s).d = s.d := rfl
@[simp] theorem pushWord_e (v : Word) (s : State) : (pushWord v s).e = s.e := rfl
@[simp] theorem pushWord_h (v : Word) (s : State) : (pushWord v s).h = s.h := rfl
@[simp] theorem pushWord_l (v : Word) (s : State) : (pushWord v s).l = s.l := rfl
@[simp] theorem pushWord_w (v : Word) (s : State) : (pushWord v s).w = s.w := rfl
@[simp] theorem pushWord_z (v : Word) (s : State) : (pushWord v s).z = s.z := rfl
@[simp] theorem pushWord_pc (v : Word) (s : State) : (pushWord v s).pc = s.pc := rfl
@[simp] theorem pushWord_sp (v : Word) (s : State) : (pushWord v s).sp = s.sp - 1#16 - 1#16 := rfl
@[simp] theorem pushWord_ir (v : Word) (s : State) : (pushWord v s).ir = s.ir := rfl
@[simp] theorem pushWord_flags (v : Word) (s : State) : (pushWord v s).flags = s.flags := rfl
@[simp] theorem pushWord_inp (v : Word) (s : State) : (pushWord v s).inp = s.inp := rfl
@[simp] theorem pushWord_outp (v : Word) (s : State) : (pushWord v s).outp = s.outp := rfl
@[simp] theorem pushWord_run (v : Word) (s : State) : (pushWord v s).run = s.run := rfl

/-! ### writeWord -/

@[simp] theorem writeWord_a (a0 : Word) (v : Word) (s : State) : (writeWord a0 v s).a = s.a := rfl
@[simp] theorem writeWord_b (a0 : Word) (v : Word) (s : State) : (writeWord a0 v s).b = s.b := rfl
@[simp] theorem writeWord_c (a0 : Word) (v : Word) (s : State) : (writeWord a0 v s).c = s.c := rfl
@[simp] theorem writeWord_d (a0 : Word) (v : Word) (s : State) : (writeWord a0 v s).d = s.d := rfl
@[simp] theorem writeWord_e (a0 : Word) (v : Word) (s : State) : (writeWord a0 v s).e = s.e := rfl
@[simp] theorem writeWord_h (a0 : Word) (v : Word) (s : State) : (writeWord a0 v s).h = s.h := rfl
@[simp] theorem writeWord_l (a0 : Word) (v : Word) (s : State) : (writeWord a0 v s).l = s.l := rfl
@[simp] theorem writeWord_w (a0 : Word) (v : Word) (s : State) : (writeWord a0 v s).w = s.w := rfl
@[simp] theorem writeWord_z (a0 : Word) (v : Word) (s : State) : (writeWord a0 v s).z = s.z := rfl
@[simp] theorem writeWord_pc (a0 : Word) (v : Word) (s : State) : (writeWord a0 v s).pc = s.pc := rfl
@[simp] theorem writeWord_sp (a0 : Word) (v : Word) (s : State) : (writeWord a0 v s).sp = s.sp := rfl
@[simp] theorem writeWord_ir (a0 : Word) (v : Word) (s : State) : (writeWord a0 v s).ir = s.ir := rfl
@[simp] theorem writeWord_flags (a0 : Word) (v : Word) (s : State) : (writeWord a0 v s).flags = s.flags := rfl
@[simp] theorem writeWord_inp (a0 : Word) (v : Word) (s : State) : (writeWord a0 v s).inp = s.inp := rfl
@[simp] theorem writeWord_outp (a0 : Word) (v : Word) (s : State) : (writeWord a0 v s).outp = s.outp := rfl
@[simp] theorem writeWord_run (a0 : Word) (v : Word) (s : State) : (writeWord a0 v s).run = s.run := rfl

/-! ### setInputPort -/

@[simp] theorem setInputPort_a (p v : Byte) (s : State) : (setInputPort p v s).a = s.a := rfl
@[simp] theorem setInputPort_b (p v : Byte) (s : State) : (setInputPort p v s).b = s.b := rfl
@[simp] theorem setInputPort_c (p v : Byte) (s : State) : (setInputPort p v s).c = s.c := rfl
@[simp] theorem setInputPort_d (p v : Byte) (s : State) : (setInputPort p v s).d = s.d := rfl
@[simp] theorem setInputPort_e (p v : Byte) (s : State) : (setInputPort p v s).e = s.e := rfl
@[simp] theorem setInputPort_h (p v : Byte) (s : State) : (setInputPort p v s).h = s.h := rfl
@[simp] theorem setInputPort_l (p v : Byte) (s : State) : (setInputPort p v s).l = s.l := rfl
@[simp] theorem setInputPort_w (p v : Byte) (s : State) : (setInputPort p v s).w = s.w := rfl
@[simp] theorem setInputPort_z (p v : Byte) (s : State) : (setInputPort p v s).z = s.z := rfl
@[simp] theorem setInputPort_pc (p v : Byte) (s : State) : (setInputPort p v s).pc = s.pc := rfl
@[simp] theorem setInputPort_sp (p v : Byte) (s : State) : (setInputPort p v s).sp = s.sp := rfl
@[simp] theorem setInputPort_ir (p v : Byte) (s : State) : (setInputPort p v s).ir = s.ir := rfl
@[simp] theorem setInputPort_flags (p v : Byte) (s : State) : (setInputPort p v s).flags = s.flags := rfl
@[simp] theorem setInputPort_inp (p v : Byte) (s : State) : (setInputPort p v s).inp = Cells.write s.inp p.toNat v := rfl
@[simp] theorem setInputPort_outp (p v : Byte) (s : State) : (setInputPort p v s).outp = s.outp := rfl
@[simp] theorem setInputPort_run (p v : Byte) (s : State) : (setInputPort p v s).run = s.run := rfl
@[simp] theorem setInputPort_mem (p v : Byte) (s : State) : (setInputPort p v s).mem = s.mem := rfl

/-! ### setOutputPort -/

@[simp] theorem setOutputPort_a (p v : Byte) (s : State) : (setOutputPort p v s).a = s.a := rfl
@[simp] theorem setOutputPort_b (p v : Byte) (s : State) : (setOutputPort p v s).b = s.b := rfl
@[simp] theorem setOutputPort_c (p v : Byte) (s : State) : (setOutputPort p v s).c = s.c := rfl
@[simp] theorem setOutputPort_d (p v : Byte) (s : State) : (setOutputPort p v s).d = s.d := rfl
@[simp] theorem setOutputPort_e (p v : Byte) (s : State) : (setOutputPort p v s).e = s.e := rfl
@[simp] theorem setOutputPort_h (p v : Byte) (s : State) : (setOutputPort p v s).h = s.h := rfl
@[simp] theorem setOutputPort_l (p v : Byte) (s : State) : (setOutputPort p v s).l = s.l := rfl
@[simp] theorem setOutputPort_w (p v : Byte) (s : State) : (setOutputPort p v s).w = s.w := rfl
@[simp] theorem setOutputPort_z (p v : Byte) (s : State) : (setOutputPort p v s).z = s.z := rfl
@[simp] theorem setOutputPort_pc (p v : Byte) (s : State) : (setOutputPort p v s).pc = s.pc := rfl
@[simp] theorem setOutputPort_sp (p v : Byte) (s : State) : (setOutputPort p v s).sp = s.sp := rfl
@[simp] theorem setOutputPort_ir (p v : Byte) (s : State) : (setOutputPort p v s).ir = s.ir := rfl
@[simp] theorem setOutputPort_flags (p v : Byte) (s : State) : (setOutputPort p v s).flags = s.flags := rfl
@[simp] theorem setOutputPort_inp (p v : Byte) (s : State) : (setOutputPort p v s).inp = s.inp := rfl
@[simp] theorem setOutputPort_outp (p v : Byte) (s : State) : (setOutputPort p v s).outp = Cells.write s.outp p.toNat v := rfl
@[simp] theorem setOutputPort_run (p v : Byte) (s : State) : (setOutputPort p v s).run = s.run := rfl
@[simp] theorem setOutputPort_mem (p v : Byte) (s : State) : (setOutputPort p v s).mem = s.mem := rfl

/-! ### raiseFault -/

@[simp] theorem raiseFault_a (f : Fault) (s : State) : (raiseFault f s).a = s.a := rfl
@[simp] theorem raiseFault_b (f : Fault) (s : State) : (raiseFault f s).b = s.b := rfl
@[simp] theorem raiseFault_c (f : Fault) (s : State) : (raiseFault f s).c = s.c := rfl
@[simp] theorem raiseFault_d (f : Fault) (s : State) : (raiseFault f s).d = s.d := rfl
@[simp] theorem raiseFault_e (f : Fault) (s : State) : (raiseFault f s).e = s.e := rfl
@[simp] theorem raiseFault_h (f : Fault) (s : State) : (raiseFault f s).h = s.h := rfl
@[simp] theorem raiseFault_l (f : Fault) (s : State) : (raiseFault f s).l = s.l := rfl
@[simp] theorem raiseFault_w (f : Fault) (s : State) : (raiseFault f s).w = s.w := rfl
@[simp] theorem raiseFault_z (f : Fault) (s : State) : (raiseFault f s).z = s.z := rfl
@[simp] theorem raiseFault_pc (f : Fault) (s : State) : (raiseFault f s).pc = s.pc := rfl
@[simp] theorem raiseFault_sp (f : Fault) (s : State) : (raiseFault f s).sp = s.sp := rfl
@[simp] theorem raiseFault_ir (f : Fault) (s : State) : (raiseFault f s).ir = s.ir := rfl
@[simp] theorem raiseFault_flags (f : Fault) (s : State) : (raiseFault f s).flags = s.flags := rfl
@[simp] theorem raiseFault_inp (f : Fault) (s : State) : (raiseFault f s).inp = s.inp := rfl
@[simp] theorem raiseFault_outp (f : Fault) (s : State) : (raiseFault f s).outp = s.outp := rfl
@[simp] theorem raiseFault_run (f : Fault) (s : State) : (raiseFault f s).run = .faulted f := rfl
@[simp] theorem raiseFault_mem (f : Fault) (s : State) : (raiseFault f s).mem = s.mem := rfl

/-! ### halt -/

@[simp] theorem halt_a (s : State) : (halt s).a = s.a := rfl
@[simp] theorem halt_b (s : State) : (halt s).b = s.b := rfl
@[simp] theorem halt_c (s : State) : (halt s).c = s.c := rfl
@[simp] theorem halt_d (s : State) : (halt s).d = s.d := rfl
@[simp] theorem halt_e (s : State) : (halt s).e = s.e := rfl
@[simp] theorem halt_h (s : State) : (halt s).h = s.h := rfl
@[simp] theorem halt_l (s : State) : (halt s).l = s.l := rfl
@[simp] theorem halt_w (s : State) : (halt s).w = s.w := rfl
@[simp] theorem halt_z (s : State) : (halt s).z = s.z := rfl
@[simp] theorem halt_pc (s : State) : (halt s).pc = s.pc := rfl
@[simp] theorem halt_sp (s : State) : (halt s).sp = s.sp := rfl
@[simp] theorem halt_ir (s : State) : (halt s).ir = s.ir := rfl
@[simp] theorem halt_flags (s : State) : (halt s).flags = s.flags := rfl
@[simp] theorem halt_inp (s : State) : (halt s).inp = s.inp := rfl
@[simp] theorem halt_outp (s : State) : (halt s).outp = s.outp := rfl
@[simp] theorem halt_run (s : State) : (halt s).run = .halted := rfl
@[simp] theorem halt_mem (s : State) : (halt s).mem = s.mem := rfl

/-! ### setCarry -/

@[simp] theorem setCarry_a (cy : Bool) (s : State) : (setCarry cy s).a = s.a := rfl
@[simp] theorem setCarry_b (cy : Bool) (s : State) : (setCarry cy s).b = s.b := rfl
@[simp] theorem setCarry_c (cy : Bool) (s : State) : (setCarry cy s).c = s.c := rfl
@[simp] theorem setCarry_d (cy : Bool) (s : State) : (setCarry cy s).d = s.d := rfl
@[simp] theorem setCarry_e (cy : Bool) (s : State) : (setCarry cy s).e = s.e := rfl
@[simp] theorem setCarry_h (cy : Bool) (s : State) : (setCarry cy s).h = s.h := rfl
@[simp] theorem setCarry_l (cy : Bool) (s : State) : (setCarry cy s).l = s.l := rfl
@[simp] theorem setCarry_w (cy : Bool) (s : State) : (setCarry cy s).w = s.w := rfl
@[simp] theorem setCarry_z (cy : Bool) (s : State) : (setCarry cy s).z = s.z := rfl
@[simp] theorem setCarry_pc (cy : Bool) (s : State) : (setCarry cy s).pc = s.pc := rfl
@[simp] theorem setCarry_sp (cy : Bool) (s : State) : (setCarry cy s).sp = s.sp := rfl
@[simp] theorem setCarry_ir (cy : Bool) (s : State) : (setCarry cy s).ir = s.ir := rfl
@[simp] theorem setCarry_flags (cy : Bool) (s : State) : (setCarry cy s).flags = { s.flags with cy := cy } := rfl
@[simp] theorem setCarry_inp (cy : Bool) (s : State) : (setCarry cy s).inp = s.inp := rfl
@[simp] theorem setCarry_outp (cy : Bool) (s : State) : (setCarry cy s).outp = s.outp := rfl
@[simp] theorem setCarry_run (cy : Bool) (s : State) : (setCarry cy s).run = s.run := rfl
@[simp] theorem setCarry_mem (cy : Bool) (s : State) : (setCarry cy s).mem = s.mem := rfl

/-! ### accumulate -/

@[simp] theorem accumulate_a (res : Byte) (cy : Bool) (s : State) : (accumulate res cy s).a = res := rfl
@[simp] theorem accumulate_b (res : Byte) (cy : Bool) (s : State) : (accumulate res cy s).b = s.b := rfl
@[simp] theorem accumulate_c (res : Byte) (cy : Bool) (s : State) : (accumulate res cy s).c = s.c := rfl
@[simp] theorem accumulate_d (res : Byte) (cy : Bool) (s : State) : (accumulate res cy s).d = s.d := rfl
@[simp] theorem accumulate_e (res : Byte) (cy : Bool) (s : State) : (accumulate res cy s).e = s.e := rfl
@[simp] theorem accumulate_h (res : Byte) (cy : Bool) (s : State) : (accumulate res cy s).h = s.h := rfl
@[simp] theorem accumulate_l (res : Byte) (cy : Bool) (s : State) : (accumulate res cy s).l = s.l := rfl
@[simp] theorem accumulate_w (res : Byte) (cy : Bool) (s : State) : (accumulate res cy s).w = s.w := rfl
@[simp] theorem accumulate_z (res : Byte) (cy : Bool) (s : State) : (accumulate res cy s).z = s.z := rfl
@[simp] theorem accumulate_pc (res : Byte) (cy : Bool) (s : State) : (accumulate res cy s).pc = s.pc := rfl
@[simp] theorem accumulate_sp (res : Byte) (cy : Bool) (s : State) : (accumulate res cy s).sp = s.sp := rfl
@[simp] theorem accumulate_ir (res : Byte) (cy : Bool) (s : State) : (accumulate res cy s).ir = s.ir := rfl
@[simp] theorem accumulate_flags (res : Byte) (cy : Bool) (s : State) : (accumulate res cy s).flags = resultFlags res cy s.flags := rfl
@[simp] theorem accumulate_inp (res : Byte) (cy : Bool) (s : State) : (accumulate res cy s).inp = s.inp := rfl
@[simp] theorem accumulate_outp (res : Byte) (cy : Bool) (s : State) : (accumulate res cy s).outp = s.outp := rfl
@[simp] theorem accumulate_run (res : Byte) (cy : Bool) (s : State) : (accumulate res cy s).run = s.run := rfl
@[simp] theorem accumulate_mem (res : Byte) (cy : Bool) (s : State) : (accumulate res cy s).mem = s.mem := rfl

/-! ### resetMachine -/

@[simp] theorem resetMachine_a (s : State) : (resetMachine s).a = State.reset.a := rfl
@[simp] theorem resetMachine_b (s : State) : (resetMachine s).b = State.reset.b := rfl
@[simp] theorem resetMachine_c (s : State) : (resetMachine s).c = State.reset.c := rfl
@[simp] theorem resetMachine_d (s : State) : (resetMachine s).d = State.reset.d := rfl
@[simp] theorem resetMachine_e (s : State) : (resetMachine s).e = State.reset.e := rfl
@[simp] theorem resetMachine_h (s : State) : (resetMachine s).h = State.reset.h := rfl
@[simp] theorem resetMachine_l (s : State) : (resetMachine s).l = State.reset.l := rfl
@[simp] theorem resetMachine_w (s : State) : (resetMachine s).w = State.reset.w := rfl
@[simp] theorem resetMachine_z (s : State) : (resetMachine s).z = State.reset.z := rfl
@[simp] theorem resetMachine_pc (s : State) : (resetMachine s).pc = State.reset.pc := rfl
@[simp] theorem resetMachine_sp (s : State) : (resetMachine s).sp = State.reset.sp := rfl
@[simp] theorem resetMachine_ir (s : State) : (resetMachine s).ir = State.reset.ir := rfl
@[simp] theorem resetMachine_flags (s : State) : (resetMachine s).flags = State.reset.flags := rfl
@[simp] theorem resetMachine_inp (s : State) : (resetMachine s).inp = State.reset.inp := rfl
@[simp] theorem resetMachine_outp (s : State) : (resetMachine s).outp = State.reset.outp := rfl
@[simp] theorem resetMachine_run (s : State) : (resetMachine s).run = State.reset.run := rfl
@[simp] theorem resetMachine_mem (s : State) : (resetMachine s).mem = s.mem := rfl

/-! ### setReg -/

@[simp] theorem setReg_w (r : Reg) (v : Byte) (s : State) : (setReg r v s).w = s.w := by cases r <;> rfl
@[simp] theorem setReg_z (r : Reg) (v : Byte) (s : State) : (setReg r v s).z = s.z := by cases r <;> rfl
@[simp] theorem setReg_pc (r : Reg) (v : Byte) (s : State) : (setReg r v s).pc = s.pc := by cases r <;> rfl
@[simp] theorem setReg_sp (r : Reg) (v : Byte) (s : State) : (setReg r v s).sp = s.sp := by cases r <;> rfl
@[simp] theorem setReg_ir (r : Reg) (v : Byte) (s : State) : (setReg r v s).ir = s.ir := by cases r <;> rfl
@[simp] theorem setReg_flags (r : Reg) (v : Byte) (s : State) : (setReg r v s).flags = s.flags := by cases r <;> rfl
@[simp] theorem setReg_inp (r : Reg) (v : Byte) (s : State) : (setReg r v s).inp = s.inp := by cases r <;> rfl
@[simp] theorem setReg_outp (r : Reg) (v : Byte) (s : State) : (setReg r v s).outp = s.outp := by cases r <;> rfl
@[simp] theorem setReg_run (r : Reg) (v : Byte) (s : State) : (setReg r v s).run = s.run := by cases r <;> rfl
@[simp] theorem setReg_mem (r : Reg) (v : Byte) (s : State) : (setReg r v s).mem = s.mem := by cases r <;> rfl

/-! ### setPair -/

@[simp] theorem setPair_a (p : Pair) (v : Word) (s : State) : (setPair p v s).a = s.a := by cases p <;> rfl
@[simp] theorem setPair_w (p : Pair) (v : Word) (s : State) : (setPair p v s).w = s.w := by cases p <;> rfl
@[simp] theorem setPair_z (p : Pair) (v : Word) (s : State) : (setPair p v s).z = s.z := by cases p <;> rfl
@[simp] theorem setPair_pc (p : Pair) (v : Word) (s : State) : (setPair p v s).pc = s.pc := by cases p <;> rfl
@[simp] theorem setPair_ir (p : Pair) (v : Word) (s : State) : (setPair p v s).ir = s.ir := by cases p <;> rfl
@[simp] theorem setPair_flags (p : Pair) (v : Word) (s : State) : (setPair p v s).flags = s.flags := by cases p <;> rfl
@[simp] theorem setPair_inp (p : Pair) (v : Word) (s : State) : (setPair p v s).inp = s.inp := by cases p <;> rfl
@[simp] theorem setPair_outp (p : Pair) (v : Word) (s : State) : (setPair p v s).outp = s.outp := by cases p <;> rfl
@[simp] theorem setPair_run (p : Pair) (v : Word) (s : State) : (setPair p v s).run = s.run := by cases p <;> rfl
@[simp] theorem setPair_mem (p : Pair) (v : Word) (s : State) : (setPair p v s).mem = s.mem := by cases p <;> rfl

/-! ### writeOperand -/

@[simp] theorem writeOperand_w (o : Operand) (v : Byte) (s : State) : (writeOperand o v s).w = s.w := by rcases o with ⟨⟨⟩⟩ | _ <;> rfl
@[simp] theorem writeOperand_z (o : Operand) (v : Byte) (s : State) : (writeOperand o v s).z = s.z := by rcases o with ⟨⟨⟩⟩ | _ <;> rfl
@[simp] theorem writeOperand_pc (o : Operand) (v : Byte) (s : State) : (writeOperand o v s).pc = s.pc := by rcases o with ⟨⟨⟩⟩ | _ <;> rfl
@[simp] theorem writeOperand_sp (o : Operand) (v : Byte) (s : State) : (writeOperand o v s).sp = s.sp := by rcases o with ⟨⟨⟩⟩ | _ <;> rfl
@[simp] theorem writeOperand_ir (o : Operand) (v : Byte) (s : State) : (writeOperand o v s).ir = s.ir := by rcases o with ⟨⟨⟩⟩ | _ <;> rfl
@[simp] theorem writeOperand_flags (o : Operand) (v : Byte) (s : State) : (writeOperand o v s).flags = s.flags := by rcases o with ⟨⟨⟩⟩ | _ <;> rfl
@[simp] theorem writeOperand_inp (o : Operand) (v : Byte) (s : State) : (writeOperand o v s).inp = s.inp := by rcases o with ⟨⟨⟩⟩ | _ <;> rfl
@[simp] theorem writeOperand_outp (o : Operand) (v : Byte) (s : State) : (writeOperand o v s).outp = s.outp := by rcases o with ⟨⟨⟩⟩ | _ <;> rfl
@[simp] theorem writeOperand_run (o : Operand) (v : Byte) (s : State) : (writeOperand o v s).run = s.run := by rcases o with ⟨⟨⟩⟩ | _ <;> rfl

/-! ### setStackPair -/

@[simp] theorem setStackPair_w (p : StackPair) (v : Word) (s : State) : (setStackPair p v s).w = s.w := by cases p <;> rfl
@[simp] theorem setStackPair_z (p : StackPair) (v : Word) (s : State) : (setStackPair p v s).z = s.z := by cases p <;> rfl
@[simp] theorem setStackPair_pc (p : StackPair) (v : Word) (s : State) : (setStackPair p v s).pc = s.pc := by cases p <;> rfl
@[simp] theorem setStackPair_sp (p : StackPair) (v : Word) (s : State) : (setStackPair p v s).sp = s.sp := by cases p <;> rfl
@[simp] theorem setStackPair_ir (p : StackPair) (v : Word) (s : State) : (setStackPair p v s).ir = s.ir := by cases p <;> rfl
@[simp] theorem setStackPair_inp (p : StackPair) (v : Word) (s : State) : (setStackPair p v s).inp = s.inp := by cases p <;> rfl
@[simp] theorem setStackPair_outp (p : StackPair) (v : Word) (s : State) : (setStackPair p v s).outp = s.outp := by cases p <;> rfl
@[simp] theorem setStackPair_run (p : StackPair) (v : Word) (s : State) : (setStackPair p v s).run = s.run := by cases p <;> rfl
@[simp] theorem setStackPair_mem (p : StackPair) (v : Word) (s : State) : (setStackPair p v s).mem = s.mem := by cases p <;> rfl

end Sys2Proof.Machine
end

