-- ==== Sys2Proof/Laws/Ops.lean ====
section
/-! SUPPORT. What each shared operation over memory, registers and the stack does, said once (Machine/Ops.lean,
Machine/Operands.lean). -/

namespace Sys2Proof.Machine

/-! ### Addresses -/

theorem word_succ_ne (a : Word) : a + 1#16 ≠ a := by
  intro h
  have h' : (a + 1#16).toNat = a.toNat := congrArg BitVec.toNat h
  rw [BitVec.toNat_add, BitVec.toNat_ofNat] at h'
  omega

theorem word_pred_ne (a : Word) : a - 1#16 ≠ a := by
  intro h
  exact word_succ_ne (a - 1#16) (by rw [BitVec.sub_add_cancel]; exact h.symm)

theorem word_pred_pred (a : Word) : a - 1#16 - 1#16 = a - 2#16 := by
  rw [BitVec.sub_sub]; rfl

theorem word_succ_succ (a : Word) : a + 1#16 + 1#16 = a + 2#16 := by
  rw [BitVec.add_assoc]; rfl

/-! ### Reading one byte -/

/-- A byte read depends on memory alone. -/
theorem readByte_of_mem {s t : State} (h : t.mem = s.mem) (a : Word) : readByte a t = readByte a s := by
  rw [readByte, h, readByte]

/-- A byte read after a byte write. -/
theorem readByte_writeByte (a b : Word) (v : Byte) (s : State) :
    readByte b (writeByte a v s) = if b = a then v else readByte b s := by
  simp only [readByte, writeByte_mem, Cells.read_write, BitVec.toNat_inj]

@[simp] theorem readByte_takeByte (a : Word) (s : State) : readByte a (takeByte s) = readByte a s := rfl
@[simp] theorem readByte_takeWord (a v : Word) (s : State) : readByte a (takeWord v s) = readByte a s := rfl
@[simp] theorem readByte_fetchOpcode (a : Word) (s : State) : readByte a (fetchOpcode s) = readByte a s := rfl
@[simp] theorem readByte_popped (a : Word) (s : State) : readByte a (popped s) = readByte a s := rfl
@[simp] theorem readByte_poppedWord (a : Word) (s : State) : readByte a (poppedWord s) = readByte a s := rfl
@[simp] theorem readByte_setOutputPort (a : Word) (p v : Byte) (s : State) :
    readByte a (setOutputPort p v s) = readByte a s := rfl
@[simp] theorem readByte_raiseFault (a : Word) (f : Fault) (s : State) :
    readByte a (raiseFault f s) = readByte a s := rfl
@[simp] theorem readByte_halt (a : Word) (s : State) : readByte a (halt s) = readByte a s := rfl
@[simp] theorem readByte_setCarry (a : Word) (cy : Bool) (s : State) :
    readByte a (setCarry cy s) = readByte a s := rfl
@[simp] theorem readByte_accumulate (a : Word) (res : Byte) (cy : Bool) (s : State) :
    readByte a (accumulate res cy s) = readByte a s := rfl
@[simp] theorem readByte_resetMachine (a : Word) (s : State) : readByte a (resetMachine s) = readByte a s := rfl
@[simp] theorem readByte_setReg (a : Word) (r : Reg) (v : Byte) (s : State) :
    readByte a (setReg r v s) = readByte a s := readByte_of_mem (by simp) a
@[simp] theorem readByte_setPair (a : Word) (p : Pair) (v : Word) (s : State) :
    readByte a (setPair p v s) = readByte a s := readByte_of_mem (by simp) a
@[simp] theorem readByte_setStackPair (a : Word) (p : StackPair) (v : Word) (s : State) :
    readByte a (setStackPair p v s) = readByte a s := readByte_of_mem (by simp) a

/-! ### Registers and pairs -/

@[simp] theorem getReg_setReg (r : Reg) (v : Byte) (s : State) : getReg r (setReg r v s) = v := by cases r <;> rfl

theorem getReg_setReg_other {q r : Reg} (h : q ≠ r) (v : Byte) (s : State) :
    getReg q (setReg r v s) = getReg q s := by
  cases q <;> cases r <;> first | rfl | exact absurd rfl h

/-- Assigning a register the value it holds changes nothing. -/
@[simp] theorem setReg_getReg (r : Reg) (s : State) : setReg r (getReg r s) s = s := by cases r <;> rfl

@[simp] theorem setReg_setReg (r : Reg) (u v : Byte) (s : State) : setReg r v (setReg r u s) = setReg r v s := by
  cases r <;> rfl

@[simp] theorem getPair_setPair (p : Pair) (v : Word) (s : State) : getPair p (setPair p v s) = v := by
  cases p <;> simp [getPair, setPair]

@[simp] theorem stackPairValue_upper_bc (s : State) : hiByte (stackPairValue .bc s) = s.b := by
  simp [stackPairValue, getPair]

theorem hl_eq (s : State) : hl s = mkWord s.h s.l := rfl

/-- M's pointer does not move when M is written. -/
@[simp] theorem hl_writeByte (a : Word) (v : Byte) (s : State) : hl (writeByte a v s) = hl s := rfl

/-! ### Operands -/

@[simp] theorem readOperand_takeByte (o : Operand) (s : State) : readOperand o (takeByte s) = readOperand o s := by
  rcases o with ⟨⟨⟩⟩ | _ <;> rfl

/-- An operand reads back what was written to it. -/
@[simp] theorem readOperand_writeOperand (o : Operand) (v : Byte) (s : State) :
    readOperand o (writeOperand o v s) = v := by
  cases o with
  | reg r => simp [readOperand, writeOperand]
  | m => simp [readOperand, writeOperand, readByte_writeByte]

/-- Reading an operand does not look at the flags. -/
@[simp] theorem readOperand_flags (o : Operand) (f : Flags) (s : State) :
    readOperand o { s with flags := f } = readOperand o s := by
  rcases o with ⟨⟨⟩⟩ | _ <;> rfl

/-! ### Words in memory and the stack -/

/-- A byte read after a word write: the low byte at `a`, the high byte at `u16(a + 1)`. -/
theorem readByte_writeWord (a b v : Word) (s : State) :
    readByte b (writeWord a v s) =
      if b = a + 1#16 then hiByte v else if b = a then loByte v else readByte b s := by
  simp only [writeWord, readByte_writeByte]

/-- A byte read after a byte is pushed. -/
theorem readByte_push8 (b : Word) (v : Byte) (s : State) :
    readByte b (push8 v s) = if b = s.sp - 1#16 then v else readByte b s := by
  simp only [readByte, push8_mem, Cells.read_write, BitVec.toNat_inj]

/-- A byte read after a word is pushed: the high byte below SP, the low byte below that. -/
theorem readByte_pushWord (b v : Word) (s : State) :
    readByte b (pushWord v s) =
      if b = s.sp - 1#16 - 1#16 then loByte v else if b = s.sp - 1#16 then hiByte v else readByte b s := by
  simp only [pushWord, readByte_push8, push8_sp]

/-- Two pops load low byte first. -/
theorem popWordValue_eq (s : State) : popWordValue s = mkWord (readByte (s.sp + 1#16) s) (readByte s.sp s) := rfl

/-- A word popped right after it was pushed is that word. -/
@[simp] theorem popWordValue_pushWord (v : Word) (s : State) : popWordValue (pushWord v s) = v := by
  rw [popWordValue_eq, readByte_pushWord, readByte_pushWord, pushWord_sp, BitVec.sub_add_cancel,
    if_neg (word_pred_ne (s.sp - 1#16)).symm, if_pos rfl, if_pos rfl, mkWord_hi_lo]

/-- SP is back after a word is pushed and popped. -/
theorem sp_after_push_pop (v : Word) (s : State) : (pushWord v s).sp + 1#16 + 1#16 = s.sp := by
  rw [pushWord_sp, BitVec.sub_add_cancel, BitVec.sub_add_cancel]

/-! ### The canonical form of memory is kept -/

theorem wf_writeByte {s : State} (h : Memory.wf s.mem) (a : Word) (v : Byte) : Memory.wf (writeByte a v s).mem :=
  Memory.wf_write h a v

theorem wf_writeWord {s : State} (h : Memory.wf s.mem) (a v : Word) : Memory.wf (writeWord a v s).mem :=
  wf_writeByte (wf_writeByte h _ _) _ _

theorem wf_push8 {s : State} (h : Memory.wf s.mem) (v : Byte) : Memory.wf (push8 v s).mem :=
  Memory.wf_write h _ v

theorem wf_pushWord {s : State} (h : Memory.wf s.mem) (v : Word) : Memory.wf (pushWord v s).mem :=
  wf_push8 (wf_push8 h _) _

theorem wf_writeOperand {s : State} (h : Memory.wf s.mem) (o : Operand) (v : Byte) :
    Memory.wf (writeOperand o v s).mem := by
  cases o with
  | reg r => simpa [writeOperand] using h
  | m => exact wf_writeByte h _ _

end Sys2Proof.Machine
end

