-- ==== Sys2Proof/Laws/Flags.lean ====
section
/-! SUPPORT. What the flag computations say of a result (Machine/Flags.lean). -/

namespace Sys2Proof.Machine

@[simp] theorem resultFlags_cy (res : Byte) (cy : Bool) (f : Flags) : (resultFlags res cy f).cy = cy := rfl

/-- The four recomputed flags are those of the result. -/
theorem flagsFrom_resultFlags (res : Byte) (cy : Bool) (f : Flags) {carry : Prop} (h : cy = true ↔ carry) :
    FlagsFrom res carry (resultFlags res cy f) := by
  refine ⟨?_, ?_, ?_, h⟩
  · simp [resultFlags, setZSP]
  · simpa [resultFlags, setZSP] using getLsbD_seven res
  · simp [resultFlags, setZSP, parity]

theorem addCarry_iff (t : Nat) : addCarry t = true ↔ 255 < t := by simp [addCarry]
theorem borrow_iff (t : Int) : borrow t = true ↔ t < 0 := by simp [borrow]
theorem addCarry16_iff (t : Nat) : addCarry16 t = true ↔ 65535 < t := by simp [addCarry16]

/-- An accumulated 8-bit sum. -/
theorem holdsSum_accumulate (sum : Nat) (s : State) : HoldsSum sum (accumulate (u8 sum) (addCarry sum) s) :=
  ⟨toNat_u8_natCast sum, flagsFrom_resultFlags _ _ _ (addCarry_iff sum)⟩

/-- An accumulated 8-bit difference. -/
theorem holdsDifference_accumulate (d : Int) (s : State) : HoldsDifference d (accumulate (u8 d) (borrow d) s) :=
  ⟨toNat_u8 d, flagsFrom_resultFlags _ _ _ (borrow_iff d)⟩

/-- The carry as a number. -/
theorem carryIn_takeByte (s : State) : carryIn (takeByte s) = carryIn s := rfl

end Sys2Proof.Machine
end

