-- ==== Sys2Proof/Laws/Meanings.lean ====
section
/-! SUPPORT. What each shared operation of the instruction meanings does, said once (Machine/Arithmetic.lean, Logic.lean,
DataMovement.lean, Branch.lean, Stack.lean, IoControl.lean, RotateFlag.lean) and what loading bytes does
(Machine/HostInterface.lean). -/

namespace Sys2Proof.Machine

/-! ### Operands and flags -/

/-- Writing an operand and the flags leaves all but the two as they were. -/
theorem onlyOperandDiffers_writeOperand (o : Operand) (v : Byte) (f : Flags) (s : State) :
    OnlyOperandDiffers o { s with flags := f } { writeOperand o v s with flags := f } := by
  cases o with
  | reg r => cases r <;> rfl
  | m => exact ⟨rfl, fun a ha => (readByte_writeByte (hl s) a v s).trans (if_neg ha)⟩

/-- INR leaves the operand plus one. -/
theorem readOperand_incrementOperand (c : Config) (o : Operand) (s : State) :
    readOperand o (incrementOperand c o s) = readOperand o s + 1#8 := by
  rw [incrementOperand, readOperand_flags, readOperand_writeOperand]

/-- DCR leaves the operand minus one. -/
theorem readOperand_decrementOperand (c : Config) (o : Operand) (s : State) :
    readOperand o (decrementOperand c o s) = readOperand o s - 1#8 := by
  rw [decrementOperand, readOperand_flags, readOperand_writeOperand]

/-- Z, S and P set from a result beside a given carry are the flags of that result. -/
theorem flagsFrom_setZSP (res : Byte) (cy : Bool) (f : Flags) {carry : Prop} (h : cy = true ↔ carry) :
    FlagsFrom res carry (setZSP res { f with cy := cy }) := flagsFrom_resultFlags res cy f h

/-- An accumulated logic result: bit by bit, with carry 0. -/
theorem holdsBitwise_accumulate {f : Bool → Bool → Bool} {v res : Byte} (s : State)
    (h : ∀ k < 8, res.getLsbD k = f (s.a.getLsbD k) (v.getLsbD k)) :
    HoldsBitwise f v s (accumulate res false s) :=
  ⟨h, flagsFrom_resultFlags res false s.flags (by simp)⟩

/-! ### Pairs -/

theorem getPair_incrementPair (p : Pair) (s : State) : getPair p (incrementPair p s) = getPair p s + 1#16 :=
  getPair_setPair ..

theorem getPair_decrementPair (p : Pair) (s : State) : getPair p (decrementPair p s) = getPair p s - 1#16 :=
  getPair_setPair ..

/-- DAD leaves the sum reduced modulo 65536 in H and L. -/
theorem hl_addPair (p : Pair) (s : State) :
    (mkWord (addPair p s).h (addPair p s).l).toNat = ((hl s).toNat + (getPair p s).toNat) % 65536 := by
  rw [← toNat_u16_natCast]
  simp [addPair, setPair]

/-! ### Stack -/

/-- Pushing a word writes SP and memory only. -/
theorem pushWord_eq (v : Word) (s : State) :
    pushWord v s = { s with sp := s.sp - 2#16, mem := (pushWord v s).mem } := by
  rw [← word_pred_pred]; rfl

/-- Pushing a word stores its high byte below SP and its low byte below that. -/
theorem storesBytes_pushWord (v : Word) (s : State) :
    StoresBytes (s.sp - 1#16) (hiByte v) (s.sp - 2#16) (loByte v) s (pushWord v s) := by
  intro n
  have hne := word_pred_ne (s.sp - 1#16)
  rw [word_pred_pred] at hne
  rw [readByte_pushWord, word_pred_pred]
  by_cases h : n = s.sp - 1#16
  · simp [h, hne.symm]
  · simp [h]

/-- Storing a word: its low byte at `a`, its high byte at `u16(a + 1)`. -/
theorem storesBytes_writeWord (a v : Word) (s : State) :
    StoresBytes a (loByte v) (a + 1#16) (hiByte v) s (writeWord a v s) := by
  intro n
  rw [readByte_writeWord]
  by_cases h : n = a
  · simp [h, (word_succ_ne a).symm]
  · simp [h]

/-- Popping a word changes SP only. -/
theorem poppedWord_eq (s : State) : poppedWord s = { s with sp := s.sp + 2#16 } := by
  rw [← word_succ_succ]; rfl

theorem hiByte_stackPairValue (p : StackPair) (s : State) : hiByte (stackPairValue p s) = upperHalf p s := by
  cases p <;> simp [stackPairValue, getPair, upperHalf]

theorem loByte_stackPairValue (p : StackPair) (s : State) : loByte (stackPairValue p s) = lowerHalf p s := by
  cases p <;> simp [stackPairValue, getPair, lowerHalf]

/-- CALL writes PC, SP, W, Z and memory only. -/
theorem callTo_eq (a : Word) (s : State) :
    callTo a s = { s with
      pc := a, sp := s.sp - 2#16, w := hiByte a, z := loByte a, mem := (callTo a s).mem } := by
  rw [callTo, pushWord_eq]; rfl

/-- RET writes PC and SP only. -/
theorem returnToCaller_eq (s : State) :
    returnToCaller s = { s with
      pc := mkWord (readByte (s.sp + 1#16) s) (readByte s.sp s), sp := s.sp + 2#16 } := by
  rw [returnToCaller, poppedWord_eq, popWordValue_eq]

/-- XTHL loads L and H from the top of the stack. -/
theorem exchangeTopHL_eq (s : State) :
    exchangeTopHL s = { s with
      l := readByte s.sp s, h := readByte (s.sp + 1#16) s, mem := (writeWord s.sp (hl s) s).mem } := by
  simp [exchangeTopHL, setPair, readWord]

/-! ### Ports -/

theorem inputFrom_defined {c : Config} {p : Byte} (h : p ∈ c.inPorts) (s : State) :
    inputFrom c p s = { s with pc := s.pc + 1#16, a := inputPort p s } := by
  rw [inputFrom, if_pos h]; rfl

theorem inputFrom_undefined {c : Config} {p : Byte} (h : p ∉ c.inPorts) (s : State) :
    inputFrom c p s = { s with pc := s.pc + 1#16, run := .faulted (.invalidPort (opcodeAddress s) p) } := by
  rw [inputFrom, if_neg h]; rfl

theorem outputTo_defined {c : Config} {p : Byte} (h : p ∈ c.outPorts) (s : State) :
    outputTo c p s = { s with pc := s.pc + 1#16, outp := Cells.write s.outp p.toNat s.a } := by
  rw [outputTo, if_pos h]; rfl

theorem outputTo_undefined {c : Config} {p : Byte} (h : p ∉ c.outPorts) (s : State) :
    outputTo c p s = { s with pc := s.pc + 1#16, run := .faulted (.invalidPort (opcodeAddress s) p) } := by
  rw [outputTo, if_neg h]; rfl

theorem outputPort_setOutputPort (p q v : Byte) (s : State) :
    outputPort q (setOutputPort p v s) = if q = p then v else outputPort q s := by
  simp only [outputPort, setOutputPort_outp, Cells.read_write, BitVec.toNat_inj]

theorem inputPort_setInputPort (p q v : Byte) (s : State) :
    inputPort q (setInputPort p v s) = if q = p then v else inputPort q s := by
  simp only [inputPort, setInputPort_inp, Cells.read_write, BitVec.toNat_inj]

/-! ### Rotates -/

/-- A left rotate moves every bit up one place. -/
theorem getLsbD_rotateLeft (low : Bool) (s : State) {k : Nat} (hk : k < 8) :
    (rotateLeft low s).a.getLsbD k = if k = 0 then low else s.a.getLsbD (k - 1) := by
  cases low <;> interval_cases k <;> simp [rotateLeft]

/-- A right rotate moves every bit down one place. -/
theorem getLsbD_rotateRight (high : Bool) (s : State) {k : Nat} (hk : k < 8) :
    (rotateRight high s).a.getLsbD k = if k = 7 then high else s.a.getLsbD (k + 1) := by
  cases high <;> interval_cases k <;> simp [rotateRight]

/-! ### Loading bytes -/

/-- A cell after bytes are stored from cell `n` on. -/
theorem Cells.read_storeBytes (bytes : List Int) (n k : Nat) (m : Cells) :
    Cells.read (storeBytes bytes n m) k =
      if n ≤ k ∧ k < n + bytes.length then u8 (bytes.getD (k - n) 0) else Cells.read m k := by
  induction bytes generalizing n m with
  | nil => rw [if_neg (by simp)]; rfl
  | cons v rest ih =>
    rw [storeBytes, ih, Cells.read_write]
    by_cases h1 : k = n
    · subst h1; simp
    · by_cases h2 : n + 1 ≤ k ∧ k < n + 1 + rest.length
      · rw [if_pos h2, if_pos (by simp; omega), show k - n = k - (n + 1) + 1 by omega, List.getD_cons_succ]
      · rw [if_neg h2, if_neg h1, if_neg (by simp; omega)]

/-- Bytes stored inside memory keep its canonical form. -/
theorem Memory.wf_storeBytes (bytes : List Int) {n : Nat} {m : Cells} (h : Memory.wf m)
    (hn : n + bytes.length ≤ memorySize) : Memory.wf (storeBytes bytes n m) := by
  induction bytes generalizing n m with
  | nil => exact h
  | cons v rest ih =>
    rw [List.length_cons] at hn
    exact ih (Cells.wf_write h (by omega) _) (by omega)

/-! ### Host actions -/

/-- What the host can do to a state: reset it, or change memory and the input port registers alone. -/
theorem hostAct_cases (x : HostAction) (s : State) :
    x = .reset ∨ hostAct x s = { s with mem := (hostAct x s).mem, inp := (hostAct x s).inp } := by
  cases x with
  | reset => exact .inl rfl
  | load bytes start => right; simp only [hostAct, hostLoad]; split_ifs <;> rfl
  | poke a v => right; simp only [hostAct, hostPoke]; split_ifs <;> rfl
  | writePort p v => right; simp only [hostAct, hostWritePort]; split_ifs <;> rfl

end Sys2Proof.Machine
end

