-- ==== Sys2Proof/Laws/PerInstr.lean ====
section
/-! SUPPORT. The decoder undoes the encoder, one lemma per constructor (R93, R95, R100). -/

namespace Sys2Proof.Laws.RoundTrip

open Sys2Proof Sys2Proof.Machine

/-- Decoding the instruction's bytes gives it back and consumes nothing more, and the bytes are one whole instruction. -/
def Statement (i : Instr) : Prop :=
  (∀ rest, decode (encode i ++ rest) = .ok (i, rest)) ∧ wellFormedBytes (encode i) = true

/-- The same for an instruction with a 16-bit immediate, from what its opcode byte decodes to. -/
theorem of_withWord (f : Word → Instr) (op : Byte) (hop : opcodeForm op = .withWord f)
    (henc : ∀ v, encode (f v) = [op, loByte v, hiByte v]) (hlen : lengthOfOpcode op = some 3) (v : Word) :
    Statement (f v) := by
  refine ⟨fun rest => ?_, ?_⟩
  · simp [henc, decode, hop, mkWord_hi_lo]
  · simp [henc, wellFormedBytes, hlen]

/-- The same for an instruction with an immediate byte. -/
theorem of_withByte (f : Byte → Instr) (op : Byte) (hop : opcodeForm op = .withByte f)
    (henc : ∀ v, encode (f v) = [op, v]) (hlen : lengthOfOpcode op = some 2) (v : Byte) :
    Statement (f v) := by
  refine ⟨fun rest => ?_, ?_⟩
  · simp [henc, decode, hop]
  · simp [henc, wellFormedBytes, hlen]

/-- The same for an instruction of one byte. -/
theorem of_oneByte (i : Instr) (op : Byte) (hop : opcodeForm op = .oneByte i)
    (henc : encode i = [op]) (hlen : lengthOfOpcode op = some 1) : Statement i := by
  refine ⟨fun rest => ?_, ?_⟩
  · simp [henc, decode, hop]
  · simp [henc, wellFormedBytes, hlen]

theorem nop : Statement .nop := of_oneByte .nop 0x00#8 rfl rfl (by decide)
theorem lxiB (v : Word) : Statement (.lxiB v) := of_withWord .lxiB 0x01#8 rfl (fun _ => rfl) (by decide) v
theorem staxB : Statement .staxB := of_oneByte .staxB 0x02#8 rfl rfl (by decide)
theorem inxB : Statement .inxB := of_oneByte .inxB 0x03#8 rfl rfl (by decide)
theorem inrB : Statement .inrB := of_oneByte .inrB 0x04#8 rfl rfl (by decide)
theorem dcrB : Statement .dcrB := of_oneByte .dcrB 0x05#8 rfl rfl (by decide)
theorem mviB (v : Byte) : Statement (.mviB v) := of_withByte .mviB 0x06#8 rfl (fun _ => rfl) (by decide) v
theorem rlc : Statement .rlc := of_oneByte .rlc 0x07#8 rfl rfl (by decide)
theorem dadB : Statement .dadB := of_oneByte .dadB 0x09#8 rfl rfl (by decide)
theorem ldaxB : Statement .ldaxB := of_oneByte .ldaxB 0x0A#8 rfl rfl (by decide)
theorem dcxB : Statement .dcxB := of_oneByte .dcxB 0x0B#8 rfl rfl (by decide)
theorem inrC : Statement .inrC := of_oneByte .inrC 0x0C#8 rfl rfl (by decide)
theorem dcrC : Statement .dcrC := of_oneByte .dcrC 0x0D#8 rfl rfl (by decide)
theorem mviC (v : Byte) : Statement (.mviC v) := of_withByte .mviC 0x0E#8 rfl (fun _ => rfl) (by decide) v
theorem rrc : Statement .rrc := of_oneByte .rrc 0x0F#8 rfl rfl (by decide)
theorem lxiD (v : Word) : Statement (.lxiD v) := of_withWord .lxiD 0x11#8 rfl (fun _ => rfl) (by decide) v
theorem staxD : Statement .staxD := of_oneByte .staxD 0x12#8 rfl rfl (by decide)
theorem inxD : Statement .inxD := of_oneByte .inxD 0x13#8 rfl rfl (by decide)
theorem inrD : Statement .inrD := of_oneByte .inrD 0x14#8 rfl rfl (by decide)
theorem dcrD : Statement .dcrD := of_oneByte .dcrD 0x15#8 rfl rfl (by decide)
theorem mviD (v : Byte) : Statement (.mviD v) := of_withByte .mviD 0x16#8 rfl (fun _ => rfl) (by decide) v
theorem ral : Statement .ral := of_oneByte .ral 0x17#8 rfl rfl (by decide)
theorem dadD : Statement .dadD := of_oneByte .dadD 0x19#8 rfl rfl (by decide)
theorem ldaxD : Statement .ldaxD := of_oneByte .ldaxD 0x1A#8 rfl rfl (by decide)
theorem dcxD : Statement .dcxD := of_oneByte .dcxD 0x1B#8 rfl rfl (by decide)
theorem inrE : Statement .inrE := of_oneByte .inrE 0x1C#8 rfl rfl (by decide)
theorem dcrE : Statement .dcrE := of_oneByte .dcrE 0x1D#8 rfl rfl (by decide)
theorem mviE (v : Byte) : Statement (.mviE v) := of_withByte .mviE 0x1E#8 rfl (fun _ => rfl) (by decide) v
theorem rar : Statement .rar := of_oneByte .rar 0x1F#8 rfl rfl (by decide)
theorem lxiH (v : Word) : Statement (.lxiH v) := of_withWord .lxiH 0x21#8 rfl (fun _ => rfl) (by decide) v
theorem shld (v : Word) : Statement (.shld v) := of_withWord .shld 0x22#8 rfl (fun _ => rfl) (by decide) v
theorem inxH : Statement .inxH := of_oneByte .inxH 0x23#8 rfl rfl (by decide)
theorem inrH : Statement .inrH := of_oneByte .inrH 0x24#8 rfl rfl (by decide)
theorem dcrH : Statement .dcrH := of_oneByte .dcrH 0x25#8 rfl rfl (by decide)
theorem mviH (v : Byte) : Statement (.mviH v) := of_withByte .mviH 0x26#8 rfl (fun _ => rfl) (by decide) v
theorem dadH : Statement .dadH := of_oneByte .dadH 0x29#8 rfl rfl (by decide)
theorem lhld (v : Word) : Statement (.lhld v) := of_withWord .lhld 0x2A#8 rfl (fun _ => rfl) (by decide) v
theorem dcxH : Statement .dcxH := of_oneByte .dcxH 0x2B#8 rfl rfl (by decide)
theorem inrL : Statement .inrL := of_oneByte .inrL 0x2C#8 rfl rfl (by decide)
theorem dcrL : Statement .dcrL := of_oneByte .dcrL 0x2D#8 rfl rfl (by decide)
theorem mviL (v : Byte) : Statement (.mviL v) := of_withByte .mviL 0x2E#8 rfl (fun _ => rfl) (by decide) v
theorem cma : Statement .cma := of_oneByte .cma 0x2F#8 rfl rfl (by decide)
theorem lxiSp (v : Word) : Statement (.lxiSp v) := of_withWord .lxiSp 0x31#8 rfl (fun _ => rfl) (by decide) v
theorem sta (v : Word) : Statement (.sta v) := of_withWord .sta 0x32#8 rfl (fun _ => rfl) (by decide) v
theorem inxSp : Statement .inxSp := of_oneByte .inxSp 0x33#8 rfl rfl (by decide)
theorem inrM : Statement .inrM := of_oneByte .inrM 0x34#8 rfl rfl (by decide)
theorem dcrM : Statement .dcrM := of_oneByte .dcrM 0x35#8 rfl rfl (by decide)
theorem mviM (v : Byte) : Statement (.mviM v) := of_withByte .mviM 0x36#8 rfl (fun _ => rfl) (by decide) v
theorem stc : Statement .stc := of_oneByte .stc 0x37#8 rfl rfl (by decide)
theorem dadSp : Statement .dadSp := of_oneByte .dadSp 0x39#8 rfl rfl (by decide)
theorem lda (v : Word) : Statement (.lda v) := of_withWord .lda 0x3A#8 rfl (fun _ => rfl) (by decide) v
theorem dcxSp : Statement .dcxSp := of_oneByte .dcxSp 0x3B#8 rfl rfl (by decide)
theorem inrA : Statement .inrA := of_oneByte .inrA 0x3C#8 rfl rfl (by decide)
theorem dcrA : Statement .dcrA := of_oneByte .dcrA 0x3D#8 rfl rfl (by decide)
theorem mviA (v : Byte) : Statement (.mviA v) := of_withByte .mviA 0x3E#8 rfl (fun _ => rfl) (by decide) v
theorem cmc : Statement .cmc := of_oneByte .cmc 0x3F#8 rfl rfl (by decide)
theorem movBB : Statement .movBB := of_oneByte .movBB 0x40#8 rfl rfl (by decide)
theorem movBC : Statement .movBC := of_oneByte .movBC 0x41#8 rfl rfl (by decide)
theorem movBD : Statement .movBD := of_oneByte .movBD 0x42#8 rfl rfl (by decide)
theorem movBE : Statement .movBE := of_oneByte .movBE 0x43#8 rfl rfl (by decide)
theorem movBH : Statement .movBH := of_oneByte .movBH 0x44#8 rfl rfl (by decide)
theorem movBL : Statement .movBL := of_oneByte .movBL 0x45#8 rfl rfl (by decide)
theorem movBM : Statement .movBM := of_oneByte .movBM 0x46#8 rfl rfl (by decide)
theorem movBA : Statement .movBA := of_oneByte .movBA 0x47#8 rfl rfl (by decide)
theorem movCB : Statement .movCB := of_oneByte .movCB 0x48#8 rfl rfl (by decide)
theorem movCC : Statement .movCC := of_oneByte .movCC 0x49#8 rfl rfl (by decide)
theorem movCD : Statement .movCD := of_oneByte .movCD 0x4A#8 rfl rfl (by decide)
theorem movCE : Statement .movCE := of_oneByte .movCE 0x4B#8 rfl rfl (by decide)
theorem movCH : Statement .movCH := of_oneByte .movCH 0x4C#8 rfl rfl (by decide)
theorem movCL : Statement .movCL := of_oneByte .movCL 0x4D#8 rfl rfl (by decide)
theorem movCM : Statement .movCM := of_oneByte .movCM 0x4E#8 rfl rfl (by decide)
theorem movCA : Statement .movCA := of_oneByte .movCA 0x4F#8 rfl rfl (by decide)
theorem movDB : Statement .movDB := of_oneByte .movDB 0x50#8 rfl rfl (by decide)
theorem movDC : Statement .movDC := of_oneByte .movDC 0x51#8 rfl rfl (by decide)
theorem movDD : Statement .movDD := of_oneByte .movDD 0x52#8 rfl rfl (by decide)
theorem movDE : Statement .movDE := of_oneByte .movDE 0x53#8 rfl rfl (by decide)
theorem movDH : Statement .movDH := of_oneByte .movDH 0x54#8 rfl rfl (by decide)
theorem movDL : Statement .movDL := of_oneByte .movDL 0x55#8 rfl rfl (by decide)
theorem movDM : Statement .movDM := of_oneByte .movDM 0x56#8 rfl rfl (by decide)
theorem movDA : Statement .movDA := of_oneByte .movDA 0x57#8 rfl rfl (by decide)
theorem movEB : Statement .movEB := of_oneByte .movEB 0x58#8 rfl rfl (by decide)
theorem movEC : Statement .movEC := of_oneByte .movEC 0x59#8 rfl rfl (by decide)
theorem movED : Statement .movED := of_oneByte .movED 0x5A#8 rfl rfl (by decide)
theorem movEE : Statement .movEE := of_oneByte .movEE 0x5B#8 rfl rfl (by decide)
theorem movEH : Statement .movEH := of_oneByte .movEH 0x5C#8 rfl rfl (by decide)
theorem movEL : Statement .movEL := of_oneByte .movEL 0x5D#8 rfl rfl (by decide)
theorem movEM : Statement .movEM := of_oneByte .movEM 0x5E#8 rfl rfl (by decide)
theorem movEA : Statement .movEA := of_oneByte .movEA 0x5F#8 rfl rfl (by decide)
theorem movHB : Statement .movHB := of_oneByte .movHB 0x60#8 rfl rfl (by decide)
theorem movHC : Statement .movHC := of_oneByte .movHC 0x61#8 rfl rfl (by decide)
theorem movHD : Statement .movHD := of_oneByte .movHD 0x62#8 rfl rfl (by decide)
theorem movHE : Statement .movHE := of_oneByte .movHE 0x63#8 rfl rfl (by decide)
theorem movHH : Statement .movHH := of_oneByte .movHH 0x64#8 rfl rfl (by decide)
theorem movHL : Statement .movHL := of_oneByte .movHL 0x65#8 rfl rfl (by decide)
theorem movHM : Statement .movHM := of_oneByte .movHM 0x66#8 rfl rfl (by decide)
theorem movHA : Statement .movHA := of_oneByte .movHA 0x67#8 rfl rfl (by decide)
theorem movLB : Statement .movLB := of_oneByte .movLB 0x68#8 rfl rfl (by decide)
theorem movLC : Statement .movLC := of_oneByte .movLC 0x69#8 rfl rfl (by decide)
theorem movLD : Statement .movLD := of_oneByte .movLD 0x6A#8 rfl rfl (by decide)
theorem movLE : Statement .movLE := of_oneByte .movLE 0x6B#8 rfl rfl (by decide)
theorem movLH : Statement .movLH := of_oneByte .movLH 0x6C#8 rfl rfl (by decide)
theorem movLL : Statement .movLL := of_oneByte .movLL 0x6D#8 rfl rfl (by decide)
theorem movLM : Statement .movLM := of_oneByte .movLM 0x6E#8 rfl rfl (by decide)
theorem movLA : Statement .movLA := of_oneByte .movLA 0x6F#8 rfl rfl (by decide)
theorem movMB : Statement .movMB := of_oneByte .movMB 0x70#8 rfl rfl (by decide)
theorem movMC : Statement .movMC := of_oneByte .movMC 0x71#8 rfl rfl (by decide)
theorem movMD : Statement .movMD := of_oneByte .movMD 0x72#8 rfl rfl (by decide)
theorem movME : Statement .movME := of_oneByte .movME 0x73#8 rfl rfl (by decide)
theorem movMH : Statement .movMH := of_oneByte .movMH 0x74#8 rfl rfl (by decide)
theorem movML : Statement .movML := of_oneByte .movML 0x75#8 rfl rfl (by decide)
theorem hlt : Statement .hlt := of_oneByte .hlt 0x76#8 rfl rfl (by decide)
theorem movMA : Statement .movMA := of_oneByte .movMA 0x77#8 rfl rfl (by decide)
theorem movAB : Statement .movAB := of_oneByte .movAB 0x78#8 rfl rfl (by decide)
theorem movAC : Statement .movAC := of_oneByte .movAC 0x79#8 rfl rfl (by decide)
theorem movAD : Statement .movAD := of_oneByte .movAD 0x7A#8 rfl rfl (by decide)
theorem movAE : Statement .movAE := of_oneByte .movAE 0x7B#8 rfl rfl (by decide)
theorem movAH : Statement .movAH := of_oneByte .movAH 0x7C#8 rfl rfl (by decide)
theorem movAL : Statement .movAL := of_oneByte .movAL 0x7D#8 rfl rfl (by decide)
theorem movAM : Statement .movAM := of_oneByte .movAM 0x7E#8 rfl rfl (by decide)
theorem movAA : Statement .movAA := of_oneByte .movAA 0x7F#8 rfl rfl (by decide)
theorem addB : Statement .addB := of_oneByte .addB 0x80#8 rfl rfl (by decide)
theorem addC : Statement .addC := of_oneByte .addC 0x81#8 rfl rfl (by decide)
theorem addD : Statement .addD := of_oneByte .addD 0x82#8 rfl rfl (by decide)
theorem addE : Statement .addE := of_oneByte .addE 0x83#8 rfl rfl (by decide)
theorem addH : Statement .addH := of_oneByte .addH 0x84#8 rfl rfl (by decide)
theorem addL : Statement .addL := of_oneByte .addL 0x85#8 rfl rfl (by decide)
theorem addM : Statement .addM := of_oneByte .addM 0x86#8 rfl rfl (by decide)
theorem addA : Statement .addA := of_oneByte .addA 0x87#8 rfl rfl (by decide)
theorem adcB : Statement .adcB := of_oneByte .adcB 0x88#8 rfl rfl (by decide)
theorem adcC : Statement .adcC := of_oneByte .adcC 0x89#8 rfl rfl (by decide)
theorem adcD : Statement .adcD := of_oneByte .adcD 0x8A#8 rfl rfl (by decide)
theorem adcE : Statement .adcE := of_oneByte .adcE 0x8B#8 rfl rfl (by decide)
theorem adcH : Statement .adcH := of_oneByte .adcH 0x8C#8 rfl rfl (by decide)
theorem adcL : Statement .adcL := of_oneByte .adcL 0x8D#8 rfl rfl (by decide)
theorem adcM : Statement .adcM := of_oneByte .adcM 0x8E#8 rfl rfl (by decide)
theorem adcA : Statement .adcA := of_oneByte .adcA 0x8F#8 rfl rfl (by decide)
theorem subB : Statement .subB := of_oneByte .subB 0x90#8 rfl rfl (by decide)
theorem subC : Statement .subC := of_oneByte .subC 0x91#8 rfl rfl (by decide)
theorem subD : Statement .subD := of_oneByte .subD 0x92#8 rfl rfl (by decide)
theorem subE : Statement .subE := of_oneByte .subE 0x93#8 rfl rfl (by decide)
theorem subH : Statement .subH := of_oneByte .subH 0x94#8 rfl rfl (by decide)
theorem subL : Statement .subL := of_oneByte .subL 0x95#8 rfl rfl (by decide)
theorem subM : Statement .subM := of_oneByte .subM 0x96#8 rfl rfl (by decide)
theorem subA : Statement .subA := of_oneByte .subA 0x97#8 rfl rfl (by decide)
theorem sbbB : Statement .sbbB := of_oneByte .sbbB 0x98#8 rfl rfl (by decide)
theorem sbbC : Statement .sbbC := of_oneByte .sbbC 0x99#8 rfl rfl (by decide)
theorem sbbD : Statement .sbbD := of_oneByte .sbbD 0x9A#8 rfl rfl (by decide)
theorem sbbE : Statement .sbbE := of_oneByte .sbbE 0x9B#8 rfl rfl (by decide)
theorem sbbH : Statement .sbbH := of_oneByte .sbbH 0x9C#8 rfl rfl (by decide)
theorem sbbL : Statement .sbbL := of_oneByte .sbbL 0x9D#8 rfl rfl (by decide)
theorem sbbM : Statement .sbbM := of_oneByte .sbbM 0x9E#8 rfl rfl (by decide)
theorem sbbA : Statement .sbbA := of_oneByte .sbbA 0x9F#8 rfl rfl (by decide)
theorem anaB : Statement .anaB := of_oneByte .anaB 0xA0#8 rfl rfl (by decide)
theorem anaC : Statement .anaC := of_oneByte .anaC 0xA1#8 rfl rfl (by decide)
theorem anaD : Statement .anaD := of_oneByte .anaD 0xA2#8 rfl rfl (by decide)
theorem anaE : Statement .anaE := of_oneByte .anaE 0xA3#8 rfl rfl (by decide)
theorem anaH : Statement .anaH := of_oneByte .anaH 0xA4#8 rfl rfl (by decide)
theorem anaL : Statement .anaL := of_oneByte .anaL 0xA5#8 rfl rfl (by decide)
theorem anaM : Statement .anaM := of_oneByte .anaM 0xA6#8 rfl rfl (by decide)
theorem anaA : Statement .anaA := of_oneByte .anaA 0xA7#8 rfl rfl (by decide)
theorem xraB : Statement .xraB := of_oneByte .xraB 0xA8#8 rfl rfl (by decide)
theorem xraC : Statement .xraC := of_oneByte .xraC 0xA9#8 rfl rfl (by decide)
theorem xraD : Statement .xraD := of_oneByte .xraD 0xAA#8 rfl rfl (by decide)
theorem xraE : Statement .xraE := of_oneByte .xraE 0xAB#8 rfl rfl (by decide)
theorem xraH : Statement .xraH := of_oneByte .xraH 0xAC#8 rfl rfl (by decide)
theorem xraL : Statement .xraL := of_oneByte .xraL 0xAD#8 rfl rfl (by decide)
theorem xraM : Statement .xraM := of_oneByte .xraM 0xAE#8 rfl rfl (by decide)
theorem xraA : Statement .xraA := of_oneByte .xraA 0xAF#8 rfl rfl (by decide)
theorem oraB : Statement .oraB := of_oneByte .oraB 0xB0#8 rfl rfl (by decide)
theorem oraC : Statement .oraC := of_oneByte .oraC 0xB1#8 rfl rfl (by decide)
theorem oraD : Statement .oraD := of_oneByte .oraD 0xB2#8 rfl rfl (by decide)
theorem oraE : Statement .oraE := of_oneByte .oraE 0xB3#8 rfl rfl (by decide)
theorem oraH : Statement .oraH := of_oneByte .oraH 0xB4#8 rfl rfl (by decide)
theorem oraL : Statement .oraL := of_oneByte .oraL 0xB5#8 rfl rfl (by decide)
theorem oraM : Statement .oraM := of_oneByte .oraM 0xB6#8 rfl rfl (by decide)
theorem oraA : Statement .oraA := of_oneByte .oraA 0xB7#8 rfl rfl (by decide)
theorem cmpB : Statement .cmpB := of_oneByte .cmpB 0xB8#8 rfl rfl (by decide)
theorem cmpC : Statement .cmpC := of_oneByte .cmpC 0xB9#8 rfl rfl (by decide)
theorem cmpD : Statement .cmpD := of_oneByte .cmpD 0xBA#8 rfl rfl (by decide)
theorem cmpE : Statement .cmpE := of_oneByte .cmpE 0xBB#8 rfl rfl (by decide)
theorem cmpH : Statement .cmpH := of_oneByte .cmpH 0xBC#8 rfl rfl (by decide)
theorem cmpL : Statement .cmpL := of_oneByte .cmpL 0xBD#8 rfl rfl (by decide)
theorem cmpM : Statement .cmpM := of_oneByte .cmpM 0xBE#8 rfl rfl (by decide)
theorem cmpA : Statement .cmpA := of_oneByte .cmpA 0xBF#8 rfl rfl (by decide)
theorem rnz : Statement .rnz := of_oneByte .rnz 0xC0#8 rfl rfl (by decide)
theorem popB : Statement .popB := of_oneByte .popB 0xC1#8 rfl rfl (by decide)
theorem jnz (v : Word) : Statement (.jnz v) := of_withWord .jnz 0xC2#8 rfl (fun _ => rfl) (by decide) v
theorem jmp (v : Word) : Statement (.jmp v) := of_withWord .jmp 0xC3#8 rfl (fun _ => rfl) (by decide) v
theorem cnz (v : Word) : Statement (.cnz v) := of_withWord .cnz 0xC4#8 rfl (fun _ => rfl) (by decide) v
theorem pushB : Statement .pushB := of_oneByte .pushB 0xC5#8 rfl rfl (by decide)
theorem adi (v : Byte) : Statement (.adi v) := of_withByte .adi 0xC6#8 rfl (fun _ => rfl) (by decide) v
theorem rz : Statement .rz := of_oneByte .rz 0xC8#8 rfl rfl (by decide)
theorem ret : Statement .ret := of_oneByte .ret 0xC9#8 rfl rfl (by decide)
theorem jz (v : Word) : Statement (.jz v) := of_withWord .jz 0xCA#8 rfl (fun _ => rfl) (by decide) v
theorem cz (v : Word) : Statement (.cz v) := of_withWord .cz 0xCC#8 rfl (fun _ => rfl) (by decide) v
theorem call (v : Word) : Statement (.call v) := of_withWord .call 0xCD#8 rfl (fun _ => rfl) (by decide) v
theorem aci (v : Byte) : Statement (.aci v) := of_withByte .aci 0xCE#8 rfl (fun _ => rfl) (by decide) v
theorem rnc : Statement .rnc := of_oneByte .rnc 0xD0#8 rfl rfl (by decide)
theorem popD : Statement .popD := of_oneByte .popD 0xD1#8 rfl rfl (by decide)
theorem jnc (v : Word) : Statement (.jnc v) := of_withWord .jnc 0xD2#8 rfl (fun _ => rfl) (by decide) v
theorem outPort (v : Byte) : Statement (.outPort v) := of_withByte .outPort 0xD3#8 rfl (fun _ => rfl) (by decide) v
theorem cnc (v : Word) : Statement (.cnc v) := of_withWord .cnc 0xD4#8 rfl (fun _ => rfl) (by decide) v
theorem pushD : Statement .pushD := of_oneByte .pushD 0xD5#8 rfl rfl (by decide)
theorem sui (v : Byte) : Statement (.sui v) := of_withByte .sui 0xD6#8 rfl (fun _ => rfl) (by decide) v
theorem rc : Statement .rc := of_oneByte .rc 0xD8#8 rfl rfl (by decide)
theorem jc (v : Word) : Statement (.jc v) := of_withWord .jc 0xDA#8 rfl (fun _ => rfl) (by decide) v
theorem inPort (v : Byte) : Statement (.inPort v) := of_withByte .inPort 0xDB#8 rfl (fun _ => rfl) (by decide) v
theorem cc (v : Word) : Statement (.cc v) := of_withWord .cc 0xDC#8 rfl (fun _ => rfl) (by decide) v
theorem sbi (v : Byte) : Statement (.sbi v) := of_withByte .sbi 0xDE#8 rfl (fun _ => rfl) (by decide) v
theorem rpo : Statement .rpo := of_oneByte .rpo 0xE0#8 rfl rfl (by decide)
theorem popH : Statement .popH := of_oneByte .popH 0xE1#8 rfl rfl (by decide)
theorem jpo (v : Word) : Statement (.jpo v) := of_withWord .jpo 0xE2#8 rfl (fun _ => rfl) (by decide) v
theorem xthl : Statement .xthl := of_oneByte .xthl 0xE3#8 rfl rfl (by decide)
theorem cpo (v : Word) : Statement (.cpo v) := of_withWord .cpo 0xE4#8 rfl (fun _ => rfl) (by decide) v
theorem pushH : Statement .pushH := of_oneByte .pushH 0xE5#8 rfl rfl (by decide)
theorem ani (v : Byte) : Statement (.ani v) := of_withByte .ani 0xE6#8 rfl (fun _ => rfl) (by decide) v
theorem rpe : Statement .rpe := of_oneByte .rpe 0xE8#8 rfl rfl (by decide)
theorem pchl : Statement .pchl := of_oneByte .pchl 0xE9#8 rfl rfl (by decide)
theorem jpe (v : Word) : Statement (.jpe v) := of_withWord .jpe 0xEA#8 rfl (fun _ => rfl) (by decide) v
theorem xchg : Statement .xchg := of_oneByte .xchg 0xEB#8 rfl rfl (by decide)
theorem cpe (v : Word) : Statement (.cpe v) := of_withWord .cpe 0xEC#8 rfl (fun _ => rfl) (by decide) v
theorem xri (v : Byte) : Statement (.xri v) := of_withByte .xri 0xEE#8 rfl (fun _ => rfl) (by decide) v
theorem rp : Statement .rp := of_oneByte .rp 0xF0#8 rfl rfl (by decide)
theorem popPsw : Statement .popPsw := of_oneByte .popPsw 0xF1#8 rfl rfl (by decide)
theorem jp (v : Word) : Statement (.jp v) := of_withWord .jp 0xF2#8 rfl (fun _ => rfl) (by decide) v
theorem cp (v : Word) : Statement (.cp v) := of_withWord .cp 0xF4#8 rfl (fun _ => rfl) (by decide) v
theorem pushPsw : Statement .pushPsw := of_oneByte .pushPsw 0xF5#8 rfl rfl (by decide)
theorem ori (v : Byte) : Statement (.ori v) := of_withByte .ori 0xF6#8 rfl (fun _ => rfl) (by decide) v
theorem rm : Statement .rm := of_oneByte .rm 0xF8#8 rfl rfl (by decide)
theorem sphl : Statement .sphl := of_oneByte .sphl 0xF9#8 rfl rfl (by decide)
theorem jm (v : Word) : Statement (.jm v) := of_withWord .jm 0xFA#8 rfl (fun _ => rfl) (by decide) v
theorem cm (v : Word) : Statement (.cm v) := of_withWord .cm 0xFC#8 rfl (fun _ => rfl) (by decide) v
theorem cpi (v : Byte) : Statement (.cpi v) := of_withByte .cpi 0xFE#8 rfl (fun _ => rfl) (by decide) v

end Sys2Proof.Laws.RoundTrip
end

