-- ==== Sys2Proof/Laws/Step.lean ====
section
/-! SUPPORT. What a step can do, and what the decoder can answer for the bytes at PC (Machine/Cycle.lean,
Decode.lean). -/

namespace Sys2Proof

open Sys2Proof.Machine

/-- What an opcode byte decodes to, against the lists of R94 and R101 and the encoder. -/
def FormAgrees (op : Byte) : Prop :=
  match opcodeForm op with
  | .unmapped => op ∈ unmappedOpcodes
  | .oneByte i => lengthOfOpcode op = some 1 ∧ encode i = [op]
  | .withByte f => lengthOfOpcode op = some 2 ∧ ∀ v, encode (f v) = [op, v]
  | .withWord f => lengthOfOpcode op = some 3 ∧ ∀ v, encode (f v) = [op, loByte v, hiByte v]

theorem formAgrees_ofNat (n : Nat) (h : n < 256) : FormAgrees (BitVec.ofNat 8 n) := by
  interval_cases n <;> first
    | (show _ ∈ unmappedOpcodes; decide)
    | exact ⟨by decide, rfl⟩
    | exact ⟨by decide, fun _ => rfl⟩

theorem formAgrees (op : Byte) : FormAgrees op := by
  simpa using formAgrees_ofNat op.toNat op.isLt

/-- The decode miss is exactly on the unmapped opcodes (R101). -/
theorem opcodeForm_unmapped_iff (op : Byte) : opcodeForm op = .unmapped ↔ op ∈ unmappedOpcodes := by
  have hf := formAgrees op
  unfold FormAgrees at hf
  constructor
  · intro h; simpa [h] using hf
  · intro h
    cases ho : opcodeForm op <;> simp [ho, lengthOfOpcode, h] at hf ⊢

namespace Machine

/-- With three bytes to read, decoding fails only on an unmapped opcode. -/
theorem decode_three_error {op v u : Byte} {e : DecodeError} (h : decode [op, v, u] = .error e) :
    e = .unmapped op ∧ opcodeForm op = .unmapped := by
  unfold decode at h
  cases hf : opcodeForm op with
  | unmapped => simpa [hf, eq_comm] using h
  | oneByte i => simp [hf] at h
  | withByte i => simp [hf] at h
  | withWord i => simp [hf] at h

/-- What a step from `s` can be: one instruction, the fault of an unmapped opcode, or nothing. -/
theorem step_cases (s : State) :
    (s.run = .running ∧ ∃ i rest, decode (fetchBytes s) = .ok (i, rest) ∧ step s = exec i (fetchOpcode s)) ∨
    (s.run = .running ∧ opcodeForm (readByte s.pc s) = .unmapped ∧ step s = .next (unmappedOpcode s)) ∨
    (s.run ≠ .running ∧ step s = .next s) := by
  cases hr : s.run with
  | running =>
    cases hd : decode (fetchBytes s) with
    | ok p => exact .inl ⟨rfl, p.1, p.2, rfl, by simp [step, cycle, hr, runOne, hd]⟩
    | error e =>
      exact .inr (.inl ⟨rfl, (decode_three_error hd).2, by simp [step, cycle, hr, runOne, hd]⟩)
  | halted => exact .inr (.inr ⟨by simp, by simp [step, cycle, hr]⟩)
  | faulted f => exact .inr (.inr ⟨by simp, by simp [step, cycle, hr]⟩)

/-- A run of one step more goes on from the step's successor. -/
theorem core_run_next (n : Nat) {s t : State} (h : step s = .next t) :
    Host.Core.run core (n + 1) s = Host.Core.run core n t := by
  have h' : core.step s = .next t := h
  simp only [Host.Core.run, h']

/-- What the fault of an unmapped opcode leaves. -/
theorem unmappedOpcode_eq (s : State) :
    unmappedOpcode s = { s with
      ir := readByte s.pc s, pc := s.pc + 1#16, run := .faulted (.invalidOpcode s.pc (readByte s.pc s)) } := rfl

end Machine

end Sys2Proof
end

