-- ==== Sys2Proof/Tests/Slice0.lean ====
section
/-! SUPPORT. The model's own tests: ill-formed terms that the checks refuse, words written out from the encoding of the
spec, single steps whose results are the vectors V<n> of 95_test_vectors.md, and, for every obligation that has
hypotheses, a concrete state that meets them. -/

namespace Sys2Proof.Tests

open Sys2Proof Sys2Proof.Machine

/-! ### What the checks refuse -/

theorem test_no_bytes_are_ill_formed : wellFormedBytes [] = false := by decide
theorem test_unmapped_opcode_is_ill_formed : wellFormedBytes [0x08#8] = false := by decide
theorem test_missing_immediate_byte_is_ill_formed : wellFormedBytes [0x3E#8] = false := by decide
theorem test_missing_second_address_byte_is_ill_formed : wellFormedBytes [0xC3#8, 0x00#8] = false := by decide
theorem test_extra_byte_is_ill_formed : wellFormedBytes [0x80#8, 0x00#8] = false := by decide
theorem test_whole_instructions_are_well_formed :
    wellFormedBytes [0x80#8] = true ∧ wellFormedBytes [0x3E#8, 0x05#8] = true ∧
    wellFormedBytes [0xC3#8, 0x00#8, 0x02#8] = true := by decide
theorem test_unsorted_memory_is_ill_formed : ¬ Memory.wf [(2, 0x01#8), (1, 0x01#8)] := by decide
theorem test_repeated_address_is_ill_formed : ¬ Memory.wf [(1, 0x01#8), (1, 0x02#8)] := by decide
theorem test_listed_zero_is_ill_formed : ¬ Memory.wf [(1, 0x00#8)] := by decide
theorem test_address_past_memory_is_ill_formed : ¬ Memory.wf [(65536, 0x01#8)] := by decide
theorem test_undefined_port_register_is_ill_formed : ¬ Ports.wf parameters.inPorts [(3, 0x01#8)] := by decide
theorem test_last_address_is_well_formed : Memory.wf [(0, 0x01#8), (65535, 0x01#8)] := by decide

/-! ### Words written out from the formats of R95 and the tables of R27, R28, R36 and R100 -/

/-- MOV H,D is `01 ddd sss` with ddd = 100, sss = 010. -/
theorem test_decode_mov : decode [0b01100010#8] = .ok (.movHD, []) := by decide
/-- MOV M,B has ddd = 110, MOV A,M has sss = 110, and `01 110 110` is HLT. -/
theorem test_decode_mov_m_and_hlt :
    decode [0b01110000#8] = .ok (.movMB, []) ∧ decode [0b01111110#8] = .ok (.movAM, []) ∧
    decode [0b01110110#8] = .ok (.hlt, []) := by decide
/-- MVI L is `00 ddd 110` with ddd = 101; INR and DCR end in 100 and 101. -/
theorem test_decode_mvi_inr_dcr :
    decode [0b00101110#8, 0xFF#8] = .ok (.mviL 0xFF#8, []) ∧ decode [0b00110100#8] = .ok (.inrM, []) ∧
    decode [0b00001101#8] = .ok (.dcrC, []) := by decide
/-- LXI, INX, DAD and DCX are `00 rp 0001`, `00 rp 0011`, `00 rp 1001` and `00 rp 1011`; the low byte comes first. -/
theorem test_decode_pairs :
    decode [0b00110001#8, 0x00#8, 0x02#8] = .ok (.lxiSp 0x0200#16, []) ∧ decode [0b00010011#8] = .ok (.inxD, []) ∧
    decode [0b00101001#8] = .ok (.dadH, []) ∧ decode [0b00001011#8] = .ok (.dcxB, []) := by decide
/-- The accumulator operations are `10 ooo sss`, the immediate ones `11 ooo 110`. -/
theorem test_decode_accumulator :
    decode [0b10001001#8] = .ok (.adcC, []) ∧ decode [0b10111110#8] = .ok (.cmpM, []) ∧
    decode [0b11101110#8, 0xFF#8] = .ok (.xri 0xFF#8, []) := by decide
/-- Jcc, Ccc and Rcc are `11 ccc 010`, `11 ccc 100` and `11 ccc 000`. -/
theorem test_decode_conditional :
    decode [0b11101010#8, 0x34#8, 0x12#8] = .ok (.jpe 0x1234#16, []) ∧
    decode [0b11011100#8, 0x34#8, 0x12#8] = .ok (.cc 0x1234#16, []) ∧ decode [0b11111000#8] = .ok (.rm, []) := by
  decide
/-- PUSH and POP are `11 rp 0101` and `11 rp 0001`, with code 11 for PSW. -/
theorem test_decode_stack :
    decode [0b11110101#8] = .ok (.pushPsw, []) ∧ decode [0b11010001#8] = .ok (.popD, []) ∧
    decode [0xE3#8] = .ok (.xthl, []) ∧ decode [0xF9#8] = .ok (.sphl, []) := by decide
theorem test_decode_direct :
    decode [0x32#8, 0x34#8, 0x12#8] = .ok (.sta 0x1234#16, []) ∧ decode [0x2A#8, 0x34#8, 0x12#8] = .ok (.lhld 0x1234#16, []) ∧
    decode [0x1A#8] = .ok (.ldaxD, []) ∧ decode [0x02#8] = .ok (.staxB, []) := by decide
theorem test_decode_io_rotate_flag :
    decode [0xDB#8, 0x01#8] = .ok (.inPort 0x01#8, []) ∧ decode [0xD3#8, 0x03#8] = .ok (.outPort 0x03#8, []) ∧
    decode [0x07#8] = .ok (.rlc, []) ∧ decode [0x3F#8] = .ok (.cmc, []) := by decide
/-- A truncated instruction and an unmapped opcode are refused by name. -/
theorem test_decode_refuses :
    decode [] = .error .empty ∧ decode [0xC3#8, 0x00#8] = .error (.truncated 0xC3#8) ∧
    decode [0x08#8] = .error (.unmapped 0x08#8) := by decide
/-- Bit 0 of a table word is the least significant bit of the first byte; the missing operand bytes are zero. -/
theorem test_decode_table_word :
    decodeTableWord 24 0x1234C3 = some (.jmp 0x1234#16) ∧ decodeTableWord 8 0xC3 = some (.jmp 0x0000#16) ∧
    decodeTableWord 8 0x08 = none := by decide

/-! ### Single steps -/

/-- The state a step answers. -/
def after (s : State) : State :=
  match step s with
  | .next t => t
  | .fault _ => s
  | .refused _ => s

/-- The bytes at PC and the cells, in the registers of `s`. -/
def machine (bytes : List Byte) (cells : Cells) (s : State) : State := placeAtPC bytes { s with mem := cells }

/-- The four flags, in the order of the vectors. -/
def flagBits (s z p cy : Bool) : Flags := { s := s, z := z, p := p, cy := cy }

/-- One byte of memory. -/
def cell (a : Nat) (s : State) : Byte := Cells.read s.mem a

/-- V2: ADD B (R122). -/
theorem test_add_b_carry_out :
    let t := after (machine [0x80#8] [] { State.reset with a := 0xFF#8, b := 0x01#8 })
    t.a = 0x00#8 ∧ t.flags = flagBits false true true true ∧ t.pc = 0x0001#16 := by decide
/-- V5: ADD M (R122). -/
theorem test_add_m :
    let t := after (machine [0x86#8] [(0x2000, 0x10#8)]
      { State.reset with a := 0x01#8, h := 0x20#8, l := 0x00#8 })
    t.a = 0x11#8 ∧ t.flags = flagBits false false true false ∧ t.pc = 0x0001#16 := by decide
/-- V9: ADC C (R123). -/
theorem test_adc_c_operand_plus_carry :
    let t := after (machine [0x89#8] []
      { State.reset with a := 0x00#8, c := 0xFF#8, flags := flagBits false false false true })
    t.flags = flagBits false true true true ∧ t.pc = 0x0001#16 := by decide
/-- V12: SUB B (R124). -/
theorem test_sub_b_borrow :
    let t := after (machine [0x90#8] [] { State.reset with a := 0x03#8, b := 0x05#8 })
    t.a = 0xFE#8 ∧ t.flags = flagBits true false false true ∧ t.pc = 0x0001#16 := by decide
/-- V14: SUB M (R124). -/
theorem test_sub_m :
    let t := after (machine [0x96#8] [(0x1234, 0x01#8)]
      { State.reset with a := 0x80#8, h := 0x12#8, l := 0x34#8 })
    t.a = 0x7F#8 ∧ t.flags = flagBits false false false false ∧ t.pc = 0x0001#16 := by decide
/-- V17: SBB B (R125). -/
theorem test_sbb_b_operand_plus_carry :
    let t := after (machine [0x98#8] []
      { State.reset with a := 0x00#8, b := 0xFF#8, flags := flagBits false false false true })
    t.flags = flagBits false true true true ∧ t.pc = 0x0001#16 := by decide
/-- V20: ADI 0xFF (R126). -/
theorem test_adi_carry_out :
    let t := after (machine [0xC6#8, 0xFF#8] [] { State.reset with a := 0x01#8 })
    t.a = 0x00#8 ∧ t.flags = flagBits false true true true ∧ t.pc = 0x0002#16 := by decide
/-- V22: ACI 0x10 (R127). -/
theorem test_aci :
    let t := after (machine [0xCE#8, 0x10#8] []
      { State.reset with a := 0x05#8, flags := flagBits false false false true })
    t.a = 0x16#8 ∧ t.flags = flagBits false false false false ∧ t.pc = 0x0002#16 := by decide
/-- V23: SUI 0x01 (R128). -/
theorem test_sui_borrow :
    let t := after (machine [0xD6#8, 0x01#8] [] { State.reset with a := 0x00#8 })
    t.a = 0xFF#8 ∧ t.flags = flagBits true false true true ∧ t.pc = 0x0002#16 := by decide
/-- V26: SBI 0xFF (R129). -/
theorem test_sbi_operand_plus_carry :
    let t := after (machine [0xDE#8, 0xFF#8] []
      { State.reset with a := 0x00#8, flags := flagBits false false false true })
    t.flags = flagBits false true true true ∧ t.pc = 0x0002#16 := by decide
/-- V28: CMP B (R130). -/
theorem test_cmp_b_less :
    let t := after (machine [0xB8#8] [] { State.reset with a := 0x05#8, b := 0x06#8 })
    t.flags = flagBits true false true true ∧ t.pc = 0x0001#16 := by decide
/-- V30: CMP M (R130). -/
theorem test_cmp_m :
    let t := after (machine [0xBE#8] [(0x0050, 0x7F#8)]
      { State.reset with a := 0x80#8, h := 0x00#8, l := 0x50#8 })
    t.flags = flagBits false false false false ∧ t.pc = 0x0001#16 := by decide
/-- V33: CPI 0x41 (R131). -/
theorem test_cpi_less :
    let t := after (machine [0xFE#8, 0x41#8] [] { State.reset with a := 0x40#8 })
    t.flags = flagBits true false true true ∧ t.pc = 0x0002#16 := by decide
/-- V35: INR B (R132). -/
theorem test_inr_b_wraps :
    let t := after (machine [0x04#8] [] { State.reset with b := 0xFF#8 })
    t.b = 0x00#8 ∧ t.flags = flagBits false true true true ∧ t.pc = 0x0001#16 := by decide
/-- V37: INR M (R133). -/
theorem test_inr_m_wraps :
    let t := after (machine [0x34#8] [(0x3000, 0xFF#8)] { State.reset with h := 0x30#8, l := 0x00#8 })
    cell 0x3000 t = 0x00#8 ∧ t.flags = flagBits false true true true ∧ t.pc = 0x0001#16 := by decide
/-- V40: DCR C (R134). -/
theorem test_dcr_c_wraps :
    let t := after (machine [0x0D#8] [] { State.reset with c := 0x00#8 })
    t.c = 0xFF#8 ∧ t.flags = flagBits true false true true ∧ t.pc = 0x0001#16 := by decide
/-- V42: DCR M (R135). -/
theorem test_dcr_m_wraps :
    let t := after (machine [0x35#8] [(0x3001, 0x00#8)] { State.reset with h := 0x30#8, l := 0x01#8 })
    cell 0x3001 t = 0xFF#8 ∧ t.flags = flagBits true false true true ∧ t.pc = 0x0001#16 := by decide
/-- V44: INX H (R136). -/
theorem test_inx_h_wraps :
    let t := after (machine [0x23#8] []
      { State.reset with h := 0xFF#8, l := 0xFF#8, flags := flagBits false false false false })
    t.h = 0x00#8 ∧ t.l = 0x00#8 ∧ t.flags = flagBits false false false false ∧ t.pc = 0x0001#16 := by decide
/-- V46: INX SP (R136). -/
theorem test_inx_sp_wraps :
    let t := after (machine [0x33#8] [] { State.reset with sp := 0xFFFF#16 })
    t.sp = 0x0000#16 ∧ t.flags = flagBits false false false false ∧ t.pc = 0x0001#16 := by decide
/-- V48: DCX D (R137). -/
theorem test_dcx_d_borrows :
    let t := after (machine [0x1B#8] [] { State.reset with d := 0x10#8, e := 0x00#8 })
    t.d = 0x0F#8 ∧ t.e = 0xFF#8 ∧ t.flags = flagBits false false false false ∧ t.pc = 0x0001#16 := by decide
/-- V49: DCX SP (R137). -/
theorem test_dcx_sp_wraps :
    let t := after (machine [0x3B#8] [] { State.reset with sp := 0x0000#16 })
    t.sp = 0xFFFF#16 ∧ t.flags = flagBits false false false false ∧ t.pc = 0x0001#16 := by decide
/-- V50: DAD B (R138). -/
theorem test_dad_b_carry_out :
    let t := after (machine [0x09#8] []
      { State.reset with h := 0xFF#8, l := 0xFF#8, b := 0x00#8, c := 0x01#8, flags := flagBits false false false false })
    t.h = 0x00#8 ∧ t.l = 0x00#8 ∧ t.flags = flagBits false false false true ∧ t.pc = 0x0001#16 := by decide
/-- V53: DAD SP (R138). -/
theorem test_dad_sp :
    let t := after (machine [0x39#8] [] { State.reset with h := 0x00#8, l := 0x10#8, sp := 0x2000#16 })
    t.h = 0x20#8 ∧ t.flags = flagBits false false false false ∧ t.pc = 0x0001#16 := by decide
/-- V54: ANA B (R151). -/
theorem test_ana_b :
    let t := after (machine [0xA0#8] []
      { State.reset with a := 0xF0#8, b := 0x0F#8, flags := flagBits false false false true })
    t.a = 0x00#8 ∧ t.flags = flagBits false true true false ∧ t.pc = 0x0001#16 := by decide
/-- V57: XRA A (R152). -/
theorem test_xra_a :
    let t := after (machine [0xAF#8] []
      { State.reset with a := 0x5A#8, flags := flagBits false false false true })
    t.a = 0x00#8 ∧ t.flags = flagBits false true true false ∧ t.pc = 0x0001#16 := by decide
/-- V59: ORA C (R153). -/
theorem test_ora_c :
    let t := after (machine [0xB1#8] [] { State.reset with a := 0x80#8, c := 0x01#8 })
    t.a = 0x81#8 ∧ t.flags = flagBits true false true false ∧ t.pc = 0x0001#16 := by decide
/-- V61: ANI 0x0F (R154). -/
theorem test_ani :
    let t := after (machine [0xE6#8, 0x0F#8] [] { State.reset with a := 0x3A#8 })
    t.a = 0x0A#8 ∧ t.flags = flagBits false false true false ∧ t.pc = 0x0002#16 := by decide
/-- V62: XRI 0xFF (R155). -/
theorem test_xri :
    let t := after (machine [0xEE#8, 0xFF#8] [] { State.reset with a := 0x55#8 })
    t.a = 0xAA#8 ∧ t.flags = flagBits true false true false ∧ t.pc = 0x0002#16 := by decide
/-- V63: ORI 0x80 (R156). -/
theorem test_ori :
    let t := after (machine [0xF6#8, 0x80#8] [] { State.reset with a := 0x01#8 })
    t.a = 0x81#8 ∧ t.flags = flagBits true false true false ∧ t.pc = 0x0002#16 := by decide
/-- V64: CMA (R157). -/
theorem test_cma :
    let t := after (machine [0x2F#8] []
      { State.reset with a := 0x00#8, flags := flagBits false true false true })
    t.a = 0xFF#8 ∧ t.flags = flagBits false true false true ∧ t.pc = 0x0001#16 := by decide
/-- V66: MOV B,A (R171). -/
theorem test_mov_b_a :
    let t := after (machine [0x47#8] []
      { State.reset with a := 0x77#8, flags := flagBits false true false true })
    t.b = 0x77#8 ∧ t.flags = flagBits false true false true ∧ t.pc = 0x0001#16 := by decide
/-- V69: MOV H,M (R172). -/
theorem test_mov_h_m :
    let t := after (machine [0x66#8] [(0x2010, 0x99#8)] { State.reset with h := 0x20#8, l := 0x10#8 })
    t.h = 0x99#8 ∧ t.flags = flagBits false false false false ∧ t.pc = 0x0001#16 := by decide
/-- V71: MOV M,H (R173). -/
theorem test_mov_m_h :
    let t := after (machine [0x74#8] [] { State.reset with h := 0x20#8, l := 0x12#8 })
    cell 0x2012 t = 0x20#8 ∧ t.flags = flagBits false false false false ∧ t.pc = 0x0001#16 := by decide
/-- V74: MVI L,0xFF (R174). -/
theorem test_mvi_l :
    let t := after (machine [0x2E#8, 0xFF#8] [] State.reset)
    t.l = 0xFF#8 ∧ t.flags = flagBits false false false false ∧ t.pc = 0x0002#16 := by decide
/-- V75: MVI M,0x5A (R175). -/
theorem test_mvi_m :
    let t := after (machine [0x36#8, 0x5A#8] [] { State.reset with h := 0x40#8, l := 0x00#8 })
    cell 0x4000 t = 0x5A#8 ∧ t.flags = flagBits false false false false ∧ t.pc = 0x0002#16 := by decide
/-- V76: LXI B,0x1234 (R176). -/
theorem test_lxi_b :
    let t := after (machine [0x01#8, 0x34#8, 0x12#8] [] State.reset)
    t.b = 0x12#8 ∧ t.c = 0x34#8 ∧ t.flags = flagBits false false false false ∧ t.pc = 0x0003#16 := by decide
/-- V77: LXI SP,0x0200 (R176). -/
theorem test_lxi_sp :
    let t := after (machine [0x31#8, 0x00#8, 0x02#8] [] State.reset)
    t.sp = 0x0200#16 ∧ t.flags = flagBits false false false false ∧ t.pc = 0x0003#16 := by decide
/-- V79: LDA 0x1234 (R177). -/
theorem test_lda :
    let t := after (machine [0x3A#8, 0x34#8, 0x12#8] [(0x1234, 0x99#8)] State.reset)
    t.a = 0x99#8 ∧ t.flags = flagBits false false false false ∧ t.pc = 0x0003#16 := by decide
/-- V80: STA 0x1234 (R178). -/
theorem test_sta :
    let t := after (machine [0x32#8, 0x34#8, 0x12#8] [] { State.reset with a := 0x42#8 })
    cell 0x1234 t = 0x42#8 ∧ t.flags = flagBits false false false false ∧ t.pc = 0x0003#16 := by decide
/-- V81: LDAX B (R179). -/
theorem test_ldax_b :
    let t := after (machine [0x0A#8] [(0x1000, 0x11#8)] { State.reset with b := 0x10#8, c := 0x00#8 })
    t.a = 0x11#8 ∧ t.flags = flagBits false false false false ∧ t.pc = 0x0001#16 := by decide
/-- V82: LDAX D (R179). -/
theorem test_ldax_d :
    let t := after (machine [0x1A#8] [(0x1001, 0x22#8)] { State.reset with d := 0x10#8, e := 0x01#8 })
    t.a = 0x22#8 ∧ t.flags = flagBits false false false false ∧ t.pc = 0x0001#16 := by decide
/-- V83: STAX B (R180). -/
theorem test_stax_b :
    let t := after (machine [0x02#8] [] { State.reset with a := 0x33#8, b := 0x10#8, c := 0x02#8 })
    cell 0x1002 t = 0x33#8 ∧ t.flags = flagBits false false false false ∧ t.pc = 0x0001#16 := by decide
/-- V84: STAX D (R180). -/
theorem test_stax_d :
    let t := after (machine [0x12#8] [] { State.reset with a := 0x44#8, d := 0x10#8, e := 0x03#8 })
    cell 0x1003 t = 0x44#8 ∧ t.flags = flagBits false false false false ∧ t.pc = 0x0001#16 := by decide
/-- V86: LHLD 0xFFFF (R181). -/
theorem test_lhld_wraps :
    let t := after (machine [0x2A#8, 0xFF#8, 0xFF#8] [(0xFFFF, 0x11#8)] { State.reset with pc := 0x0100#16 })
    t.l = 0x11#8 ∧ t.flags = flagBits false false false false ∧ t.pc = 0x0103#16 := by decide
/-- V88: SHLD 0xFFFF (R182). -/
theorem test_shld_wraps :
    let t := after (machine [0x22#8, 0xFF#8, 0xFF#8] []
      { State.reset with pc := 0x0100#16, h := 0xAB#8, l := 0xCD#8 })
    cell 0x0000 t = 0xAB#8 ∧ cell 0xFFFF t = 0xCD#8 ∧ t.flags = flagBits false false false false ∧
    t.pc = 0x0103#16 := by decide
/-- V89: XCHG (R183). -/
theorem test_xchg :
    let t := after (machine [0xEB#8] [] { State.reset with d := 0x11#8, e := 0x22#8, h := 0x33#8, l := 0x44#8 })
    t.d = 0x33#8 ∧ t.e = 0x44#8 ∧ t.h = 0x11#8 ∧ t.l = 0x22#8 ∧ t.flags = flagBits false false false false ∧
    t.pc = 0x0001#16 := by decide
/-- V91: JMP 0x1234 (R201). -/
theorem test_jmp_across_the_end :
    let t := after (machine [0xC3#8, 0x34#8, 0x12#8] [] { State.reset with pc := 0xFFFE#16 })
    t.flags = flagBits false false false false ∧ t.pc = 0x1234#16 := by decide
/-- V92: JZ 0x0200 (R202). -/
theorem test_jz_taken :
    let t := after (machine [0xCA#8, 0x00#8, 0x02#8] []
      { State.reset with flags := flagBits false true false false })
    t.flags = flagBits false true false false ∧ t.pc = 0x0200#16 := by decide
/-- V95: JNC 0x0200 (R202). -/
theorem test_jnc_not_taken :
    let t := after (machine [0xD2#8, 0x00#8, 0x02#8] []
      { State.reset with flags := flagBits false false false true })
    t.flags = flagBits false false false true ∧ t.pc = 0x0003#16 := by decide
/-- V97: JPO 0x0200 (R202). -/
theorem test_jpo_taken :
    let t := after (machine [0xE2#8, 0x00#8, 0x02#8] []
      { State.reset with flags := flagBits false false false false })
    t.flags = flagBits false false false false ∧ t.pc = 0x0200#16 := by decide
/-- V98: JPE 0x0200 (R202). -/
theorem test_jpe_not_taken :
    let t := after (machine [0xEA#8, 0x00#8, 0x02#8] []
      { State.reset with flags := flagBits false false false false })
    t.flags = flagBits false false false false ∧ t.pc = 0x0003#16 := by decide
/-- V99: JP 0x0200 (R202). -/
theorem test_jp_not_taken :
    let t := after (machine [0xF2#8, 0x00#8, 0x02#8] []
      { State.reset with flags := flagBits true false false false })
    t.flags = flagBits true false false false ∧ t.pc = 0x0003#16 := by decide
/-- V100: JM 0x0200 (R202). -/
theorem test_jm_taken :
    let t := after (machine [0xFA#8, 0x00#8, 0x02#8] []
      { State.reset with flags := flagBits true false false false })
    t.flags = flagBits true false false false ∧ t.pc = 0x0200#16 := by decide
/-- V101: PCHL (R203). -/
theorem test_pchl :
    let t := after (machine [0xE9#8] [] { State.reset with h := 0x12#8, l := 0x34#8 })
    t.flags = flagBits false false false false ∧ t.pc = 0x1234#16 := by decide
/-- V104: PUSH D (R211). -/
theorem test_push_d_across_zero :
    let t := after (machine [0xD5#8] []
      { State.reset with pc := 0x0100#16, d := 0x01#8, e := 0x02#8, sp := 0x0001#16 })
    t.sp = 0xFFFF#16 ∧ cell 0x0000 t = 0x01#8 ∧ cell 0xFFFF t = 0x02#8 ∧
    t.flags = flagBits false false false false ∧ t.pc = 0x0101#16 := by decide
/-- V105: PUSH PSW (R212). -/
theorem test_push_psw :
    let t := after (machine [0xF5#8] []
      { State.reset with a := 0x9A#8, sp := 0x3000#16, flags := flagBits true false true true })
    t.sp = 0x2FFE#16 ∧ cell 0x2FFE t = 0x85#8 ∧ cell 0x2FFF t = 0x9A#8 ∧
    t.flags = flagBits true false true true ∧ t.pc = 0x0001#16 := by decide
/-- V109: POP B (R213). -/
theorem test_pop_b_across_zero :
    let t := after (machine [0xC1#8] [(0xFFFF, 0x34#8)] { State.reset with pc := 0x0100#16, sp := 0xFFFF#16 })
    t.c = 0x34#8 ∧ t.sp = 0x0001#16 ∧ t.flags = flagBits false false false false ∧ t.pc = 0x0101#16 := by decide
/-- V111: POP PSW (R214). -/
theorem test_pop_psw :
    let t := after (machine [0xF1#8] [(0x2FFE, 0xFF#8), (0x2FFF, 0x01#8)] { State.reset with sp := 0x2FFE#16 })
    t.a = 0x01#8 ∧ t.sp = 0x3000#16 ∧ t.flags = flagBits true true true true ∧ t.pc = 0x0001#16 := by decide
/-- V113: CALL 0x0200 (R215). -/
theorem test_call :
    let t := after (machine [0xCD#8, 0x00#8, 0x02#8] [] { State.reset with pc := 0x0100#16, sp := 0x3000#16 })
    t.sp = 0x2FFE#16 ∧ cell 0x2FFE t = 0x03#8 ∧ cell 0x2FFF t = 0x01#8 ∧
    t.flags = flagBits false false false false ∧ t.pc = 0x0200#16 := by decide
/-- V115: CNZ 0x0200 (R216). -/
theorem test_cnz_not_taken :
    let t := after (machine [0xC4#8, 0x00#8, 0x02#8] []
      { State.reset with pc := 0x0100#16, sp := 0x3000#16, flags := flagBits false true false false })
    t.flags = flagBits false true false false ∧ t.pc = 0x0103#16 := by decide
/-- V117: CC 0x0200 (R216). -/
theorem test_cc_taken :
    let t := after (machine [0xDC#8, 0x00#8, 0x02#8] []
      { State.reset with pc := 0x0100#16, sp := 0x3000#16, flags := flagBits false false false true })
    t.sp = 0x2FFE#16 ∧ cell 0x2FFE t = 0x03#8 ∧ cell 0x2FFF t = 0x01#8 ∧
    t.flags = flagBits false false false true ∧ t.pc = 0x0200#16 := by decide
/-- V119: RET (R217). -/
theorem test_ret :
    let t := after (machine [0xC9#8] [(0x2FFE, 0x03#8), (0x2FFF, 0x01#8)]
      { State.reset with pc := 0x0200#16, sp := 0x2FFE#16 })
    t.sp = 0x3000#16 ∧ t.flags = flagBits false false false false ∧ t.pc = 0x0103#16 := by decide
/-- V120: RZ (R218). -/
theorem test_rz_taken :
    let t := after (machine [0xC8#8] [(0x2FFE, 0x03#8), (0x2FFF, 0x01#8)]
      { State.reset with pc := 0x0200#16, sp := 0x2FFE#16, flags := flagBits false true false false })
    t.sp = 0x3000#16 ∧ t.flags = flagBits false true false false ∧ t.pc = 0x0103#16 := by decide
/-- V123: RNC (R218). -/
theorem test_rnc_not_taken :
    let t := after (machine [0xD0#8] [(0x2FFE, 0x03#8), (0x2FFF, 0x01#8)]
      { State.reset with pc := 0x0200#16, sp := 0x2FFE#16, flags := flagBits false false false true })
    t.flags = flagBits false false false true ∧ t.pc = 0x0201#16 := by decide
/-- V124: XTHL (R220). -/
theorem test_xthl :
    let t := after (machine [0xE3#8] [(0x2FFE, 0xCD#8), (0x2FFF, 0xAB#8)]
      { State.reset with h := 0x12#8, l := 0x34#8, sp := 0x2FFE#16 })
    t.h = 0xAB#8 ∧ t.l = 0xCD#8 ∧ cell 0x2FFE t = 0x34#8 ∧ cell 0x2FFF t = 0x12#8 ∧
    t.flags = flagBits false false false false ∧ t.pc = 0x0001#16 := by decide
/-- V125: SPHL (R221). -/
theorem test_sphl :
    let t := after (machine [0xF9#8] [] { State.reset with h := 0x40#8, l := 0x00#8 })
    t.sp = 0x4000#16 ∧ t.flags = flagBits false false false false ∧ t.pc = 0x0001#16 := by decide
/-- V126: IN 1 (R230). -/
theorem test_in_defined :
    let t := after (machine [0xDB#8, 0x01#8] [] { State.reset with inp := [(1, 0x5A#8)] })
    t.a = 0x5A#8 ∧ t.flags = flagBits false false false false ∧ t.pc = 0x0002#16 := by decide
/-- V129: IN 3 (R230). -/
theorem test_in_undefined :
    let t := after (machine [0xDB#8, 0x03#8] [] { State.reset with a := 0x77#8 })
    t.run = .faulted (.invalidPort 0x0000#16 0x03#8) ∧ t.flags = flagBits false false false false ∧
    t.pc = 0x0002#16 := by decide
/-- V131: OUT 4 (R231). -/
theorem test_out_defined :
    let t := after (machine [0xD3#8, 0x04#8] [] { State.reset with a := 0xFF#8 })
    outputPort 0x04#8 t = 0xFF#8 ∧ t.flags = flagBits false false false false ∧ t.pc = 0x0002#16 := by decide
/-- V133: OUT 0xFF (R231). -/
theorem test_out_undefined :
    let t := after (machine [0xD3#8, 0xFF#8] [] { State.reset with pc := 0x0100#16, a := 0x08#8 })
    t.run = .faulted (.invalidPort 0x0100#16 0xFF#8) ∧ t.flags = flagBits false false false false ∧
    t.pc = 0x0102#16 := by decide
/-- V134: HLT (R232). -/
theorem test_hlt :
    let t := after (machine [0x76#8] [] State.reset)
    t.run = .halted ∧ t.flags = flagBits false false false false ∧ t.pc = 0x0001#16 := by decide
/-- V137: NOP (R233). -/
theorem test_nop_pc_wraps :
    let t := after (machine [0x00#8] [] { State.reset with pc := 0xFFFF#16 })
    t.flags = flagBits false false false false ∧ t.pc = 0x0000#16 := by decide
/-- V139: (unmapped 0xFF) (R251). -/
theorem test_unmapped_at_the_end :
    let t := after (machine [0xFF#8] [] { State.reset with pc := 0xFFFF#16 })
    t.run = .faulted (.invalidOpcode 0xFFFF#16 0xFF#8) ∧ t.flags = flagBits false false false false ∧
    t.pc = 0x0000#16 := by decide
/-- V142: RLC (R241). -/
theorem test_rlc :
    let t := after (machine [0x07#8] [] { State.reset with a := 0x85#8 })
    t.a = 0x0B#8 ∧ t.flags = flagBits false false false true ∧ t.pc = 0x0001#16 := by decide
/-- V145: RRC (R242). -/
theorem test_rrc :
    let t := after (machine [0x0F#8] []
      { State.reset with a := 0xF2#8, flags := flagBits false false false true })
    t.a = 0x79#8 ∧ t.flags = flagBits false false false false ∧ t.pc = 0x0001#16 := by decide
/-- V148: RAL (R243). -/
theorem test_ral :
    let t := after (machine [0x17#8] []
      { State.reset with a := 0xB5#8, flags := flagBits false false false true })
    t.a = 0x6B#8 ∧ t.flags = flagBits false false false true ∧ t.pc = 0x0001#16 := by decide
/-- V149: RAR (R244). -/
theorem test_rar :
    let t := after (machine [0x1F#8] []
      { State.reset with a := 0x01#8, flags := flagBits false false false true })
    t.a = 0x80#8 ∧ t.flags = flagBits false false false true ∧ t.pc = 0x0001#16 := by decide
/-- V152: STC (R245). -/
theorem test_stc :
    let t := after (machine [0x37#8] [] { State.reset with flags := flagBits false true false true })
    t.flags = flagBits false true false true ∧ t.pc = 0x0001#16 := by decide
/-- V153: CMC (R246). -/
theorem test_cmc :
    let t := after (machine [0x3F#8] [] { State.reset with flags := flagBits false false false true })
    t.flags = flagBits false false false false ∧ t.pc = 0x0001#16 := by decide

/-- The instruction placed by withFetchWord is the one the next step runs. -/
theorem test_placed_word_runs :
    let t := after (State.reset.withFetchWord 24 0x1234C3)
    t.pc = 0x1234#16 ∧ t.w = 0x12#8 ∧ t.z = 0x34#8 ∧ t.ir = 0xC3#8 := by decide

/-- With INRDCR_WRITE_CY false, INR and DCR keep CY (R34). -/
theorem test_inr_dcr_keep_carry_when_the_parameter_says_so :
    let c := { parameters with inrDcrWriteCy := false }
    (incrementOperand c (.reg .b) { State.reset with b := 0xFF#8 }).flags = flagBits false true true false ∧
    (decrementOperand c (.reg .b) { State.reset with flags := flagBits false false false true }).flags =
      flagBits true false true true := by decide

/-! ### Hypotheses that are met -/

theorem witness_CanonicalMemoriesReadingAlikeAreEqual :
    let m : Cells := [(0, 0x01#8), (65535, 0x02#8)]
    Memory.wf m ∧ ∀ a : Word, Cells.read m a.toNat = Cells.read m a.toNat := ⟨by decide, fun _ => rfl⟩

theorem witness_DecodedBytesAreTheEncoding :
    decode [0xC3#8, 0x34#8, 0x12#8, 0x00#8] = .ok (.jmp 0x1234#16, [0x00#8]) := by decide

/-- An instruction that wraps past the end of memory. -/
def atTheEnd : State := machine [0xC3#8, 0x34#8, 0x12#8] [] { State.reset with pc := 0xFFFF#16 }

theorem witness_StepFetchesDecodesExecutes_instruction :
    atTheEnd.run = .running ∧ decode [readByte atTheEnd.pc atTheEnd, readByte (atTheEnd.pc + 1#16) atTheEnd,
      readByte (atTheEnd.pc + 2#16) atTheEnd] = .ok (.jmp 0x1234#16, []) := by decide

/-- The unmapped opcode 0xFF at the last address. -/
def unmappedAtTheEnd : State := machine [0xFF#8] [] { State.reset with pc := 0xFFFF#16 }

theorem witness_StepFetchesDecodesExecutes_unmapped :
    let s := unmappedAtTheEnd
    s.run = .running ∧ decode [readByte s.pc s, readByte (s.pc + 1#16) s, readByte (s.pc + 2#16) s] =
      .error (.unmapped 0xFF#8) := by decide

theorem witness_StepFetchesDecodesExecutes_stopped :
    { State.reset with run := .halted }.run ≠ .running := by decide

theorem witness_UnmappedOpcodeFaults :
    unmappedAtTheEnd.run = .running ∧ readByte unmappedAtTheEnd.pc unmappedAtTheEnd ∈ unmappedOpcodes := by decide

theorem witness_StoppedMachineStandsStill :
    { State.reset with run := .halted }.run ≠ .running ∧
    { State.reset with run := .faulted (.invalidPort 0x0000#16 0x00#8) }.run ≠ .running := by decide

theorem witness_PcAdvancesByInstructionLength :
    let s := machine [0x3A#8, 0x34#8, 0x12#8] [] { State.reset with pc := 0xFFFE#16 }
    s.run = .running ∧
    decode [readByte s.pc s, readByte (s.pc + 1#16) s, readByte (s.pc + 2#16) s] = .ok (.lda 0x1234#16, []) ∧
    ¬ Transfers (.lda 0x1234#16) := by
  refine ⟨by decide, by decide, ?_⟩
  rintro (h | h | ⟨_, h | h⟩ | ⟨cond, h⟩ | ⟨cond, _, h | h⟩) <;> first | cases h | (cases cond <;> cases h)

theorem witness_IncrementDecrementWriteOperandAndFlags :
    { parameters with inrDcrWriteCy := false }.inrDcrWriteCy = false := by decide

theorem witness_ConditionalJumpsAndCallsConsumeOperand :
    condHolds .nz State.reset.flags = true ∧ condHolds .z State.reset.flags = false := by decide

theorem witness_PortInstructionsOnDefinedPorts :
    0x01#8 ∈ parameters.inPorts ∧ 0x02#8 ∈ parameters.inPorts ∧ 0x03#8 ∈ parameters.outPorts ∧
    0x04#8 ∈ parameters.outPorts := by decide

theorem witness_PortInstructionsOnUndefinedPortsFault :
    0x00#8 ∉ parameters.inPorts ∧ 0x03#8 ∉ parameters.inPorts ∧ 0x02#8 ∉ parameters.outPorts ∧
    0x05#8 ∉ parameters.outPorts ∧ 0xFF#8 ∉ parameters.outPorts := by decide

theorem witness_NopOnlyAdvancesPc :
    State.reset.run = .running ∧ readByte State.reset.pc State.reset = 0x00#8 := by decide

/-- HLT at the last address. -/
def hltAtTheEnd : State := machine [0x76#8] [] { State.reset with pc := 0xFFFF#16 }

theorem witness_HltHaltsUntilReset_step :
    hltAtTheEnd.run = .running ∧ readByte hltAtTheEnd.pc hltAtTheEnd = 0x76#8 ∧ hltAtTheEnd.run ≠ .halted ∧
    ∃ t, step hltAtTheEnd = .next t ∧ t.run = .halted := ⟨by decide, by decide, by decide, _, rfl, rfl⟩

theorem witness_HltHaltsUntilReset_exec :
    State.reset.run ≠ .halted ∧ ∃ t, exec .hlt State.reset = .next t ∧ t.run = .halted := ⟨by decide, _, rfl, rfl⟩

theorem witness_HltHaltsUntilReset_halted :
    let s := { State.reset with run := .halted }
    s.run = .halted ∧ step s = .next s ∧ HostAction.poke 0 1 ≠ .reset := ⟨rfl, rfl, by decide⟩

theorem witness_OnlyListedInstructionsWriteFlags_carry :
    ∃ t, exec .stc State.reset = .next t ∧ t.flags ≠ State.reset.flags := ⟨_, rfl, by decide⟩

theorem witness_OnlyListedInstructionsWriteFlags_zero :
    ∃ t, exec .addB State.reset = .next t ∧ { t.flags with cy := State.reset.flags.cy } ≠ State.reset.flags :=
  ⟨_, rfl, by decide⟩

theorem witness_OnlyStoringInstructionsWriteMemory :
    ∃ t, exec (.mviM 0x5A#8) State.reset = .next t ∧ t.mem ≠ State.reset.mem := ⟨_, rfl, by decide⟩

theorem witness_SpScratchAndPortsHaveFewWriters_sp :
    ∃ t, exec .pushB State.reset = .next t ∧ t.sp ≠ State.reset.sp := ⟨_, rfl, by decide⟩

theorem witness_SpScratchAndPortsHaveFewWriters_scratch :
    (∃ t, exec (.lda 0x1234#16) State.reset = .next t) ∧ encode (.lda 0x1234#16) = [0x3A#8, 0x34#8, 0x12#8] :=
  ⟨⟨_, rfl⟩, by decide⟩

theorem witness_SpScratchAndPortsHaveFewWriters_short :
    (∃ t, exec .xchg State.reset = .next t) ∧ (encode .xchg).length ≠ 3 := ⟨⟨_, rfl⟩, by decide⟩

theorem witness_SpScratchAndPortsHaveFewWriters_outp :
    ∃ t, exec (.outPort 0x03#8) { State.reset with a := 0x08#8 } = .next t ∧ t.outp ≠ State.reset.outp :=
  ⟨_, rfl, by decide⟩

theorem witness_OnlyHltHaltsAndOnlyPortsFault :
    (∃ t, exec .hlt State.reset = .next t ∧ t.run ≠ State.reset.run) ∧
    (∃ t, exec (.inPort 0x00#8) State.reset = .next t ∧ t.run ≠ State.reset.run) ∧
    ∃ t, exec (.outPort 0x05#8) State.reset = .next t ∧ t.run ≠ State.reset.run :=
  ⟨⟨_, rfl, by decide⟩, ⟨_, rfl, by decide⟩, _, rfl, by decide⟩

/-- A state that the invariant admits and no run from power-on need reach: memory and port registers hold bytes. -/
def sample : State :=
  { State.reset with mem := [(0, 0xD3#8), (1, 0x03#8), (65535, 0xFF#8)], inp := [(1, 0x07#8)], outp := [(4, 0x01#8)] }

theorem sample_inv : Inv sample := ⟨by decide, by decide, by decide, trivial⟩

theorem witness_StepKeepsInvariant : Inv sample ∧ ∃ t, step sample = .next t := ⟨sample_inv, _, rfl⟩

theorem witness_HostActionsKeepInvariant : Inv sample := sample_inv

theorem witness_HostActionsKeepInvariant_failing :
    hostLoad [1] 65536 sample = .error .programTooLarge ∧ hostPoke 65536 1 sample = .error (.outOfBounds 65536) ∧
    hostWritePort 0x03#8 0x01#8 sample = none := by decide

theorem witness_HostActionsKeepInvariant_succeeding :
    (∃ t, hostLoad [1] 65535 sample = .ok t) ∧ (∃ t, hostPoke 65535 1 sample = .ok t) ∧
    ∃ t, hostWritePort 0x02#8 0x01#8 sample = some t := ⟨⟨_, rfl⟩, ⟨_, rfl⟩, _, rfl⟩

/-- Each stop that StopRecorded admits. -/
theorem witness_StopRecorded :
    StopRecorded { State.reset with ir := 0x76#8, pc := 0x0001#16, run := .halted } ∧
    StopRecorded { State.reset with ir := 0xFF#8, run := .faulted (.invalidOpcode 0xFFFF#16 0xFF#8) } ∧
    StopRecorded { State.reset with ir := 0xDB#8, pc := 0x0001#16, run := .faulted (.invalidPort 0xFFFF#16 0x00#8) } ∧
    StopRecorded { State.reset with ir := 0xD3#8, pc := 0x0002#16, run := .faulted (.invalidPort 0x0000#16 0x05#8) } := by
  refine ⟨rfl, ⟨by decide, by decide, by decide⟩, ⟨.inl (by decide), by decide⟩, ⟨.inr (by decide), by decide⟩⟩

theorem witness_ScratchRegistersAreDead :
    SameButScratch State.reset { State.reset with w := 0x12#8, z := 0x34#8 } := rfl

theorem witness_LoadPlacesBytesOrChangesNothing :
    let bytes : List Int := [1, 2, 3, 4, 5]
    (-1 : Int) < 0 ∧ (0 : Int) ≤ 65532 ∧ (65536 : Int) < 65532 + bytes.length ∧ (0 : Int) ≤ 65531 ∧
    (65531 : Int) + bytes.length ≤ 65536 := by decide

/-- A load at its boundaries: before memory, past its end, filling it to the end, and starting at N (R255, R263; the
last two are the model's choice, log 12). -/
theorem test_load_boundaries :
    hostLoad [] (-1) State.reset = .error (.outOfBounds (-1)) ∧
    hostLoad [1, 2] 65535 State.reset = .error .programTooLarge ∧
    (hostLoad [-1, 256] 65534 State.reset).toOption.map (·.mem) = some [(65534, 0xFF#8)] ∧
    hostLoad [1] 65536 State.reset = .error .programTooLarge ∧ hostLoad [] 65536 State.reset = .ok State.reset := by
  decide

theorem witness_PeekPokeAndPortAccess :
    (0 : Int) ≤ 0 ∧ (0 : Int) < 65536 ∧ (0 : Int) ≤ 65535 ∧ (65535 : Int) < 65536 ∧ ((-1 : Int) < 0 ∨ (65536 : Int) ≤ -1) ∧
    ((65536 : Int) < 0 ∨ (65536 : Int) ≤ 65536) ∧ 0x02#8 ∈ parameters.inPorts ∧ 0x04#8 ∈ parameters.outPorts := by
  decide

theorem witness_StepAndRunReportTheRunState :
    hostRun 1 (machine [0x76#8] [] State.reset) =
      some ({ machine [0x76#8] [] State.reset with ir := 0x76#8, pc := 0x0001#16, run := .halted }, .ok ()) ∧
    { State.reset with run := .halted }.run ≠ .running := ⟨rfl, by decide⟩

theorem witness_StepAndRunReportTheRunState_running :
    (∃ t, hltAtTheEnd.run = .running ∧ step hltAtTheEnd = .next t) ∧
    ∃ t : State, Host.Core.run core 1 hltAtTheEnd = .next t ∧ t.run ≠ .running :=
  ⟨⟨_, rfl, rfl⟩, _, rfl, by decide⟩

end Sys2Proof.Tests
end

section
/-! PROOFS. The statements of 10_state.md about M and the register pairs (R23, R24, R26), and the rules they rest on. -/

namespace Sys2Proof.Machine

/-! ### Writing one byte -/

/-- R61 in the form the statements use. -/
theorem storesByte_writeByte (a : Word) (v : Byte) (s : State) : StoresByte a v s (writeByte a v s) :=
  fun b => readByte_writeByte a b v s

/-- A byte write touches memory alone. -/
theorem writeByte_eq_with_mem (a : Word) (v : Byte) (s : State) :
    writeByte a v s = { s with mem := (writeByte a v s).mem } := rfl

/-! ### M is the byte at `H : L` -/

theorem readOperand_m (s : State) : readOperand .m s = readByte (mkWord s.h s.l) s := rfl

theorem writeOperand_m (v : Byte) (s : State) : writeOperand .m v s = writeByte (mkWord s.h s.l) v s := rfl

/-- Settles O4: a write to M is a byte write at `H : L`, so the rules of a byte write give the frame and the bytes. -/
theorem indirectRegisterIsTheByteAtHL : Obligations.IndirectRegisterIsTheByteAtHL := by
  intro v s
  rw [writeOperand_m]
  exact ⟨readOperand_m s, writeByte_eq_with_mem _ v s, storesByte_writeByte _ v s⟩

/-! ### The register pairs -/

/-- The upper half counts 256, for each of the three pairs made of registers. -/
theorem toNat_getPair_registers (s : State) :
    (getPair .bc s).toNat = s.b.toNat * 256 + s.c.toNat ∧ (getPair .de s).toNat = s.d.toNat * 256 + s.e.toNat ∧
      (getPair .hl s).toNat = s.h.toNat * 256 + s.l.toNat :=
  ⟨toNat_mkWord s.b s.c, toNat_mkWord s.d s.e, toNat_mkWord s.h s.l⟩

/-- Settles O3: the halves are the quotient and the remainder by 256, and composing them gives the word back. -/
theorem pairsComposeAndDecompose : Obligations.PairsComposeAndDecompose := by
  intro v s
  have writesBothHalves : setPair .bc v s = { s with b := hiByte v, c := loByte v } ∧
      setPair .de v s = { s with d := hiByte v, e := loByte v } ∧
      setPair .hl v s = { s with h := hiByte v, l := loByte v } := ⟨rfl, rfl, rfl⟩
  have readsBack (p : Pair) : getPair p (setPair p v s) = v := getPair_setPair p v s
  exact ⟨writesBothHalves, ⟨toNat_hiByte v, toNat_loByte v⟩, toNat_getPair_registers s,
    readsBack .bc, readsBack .de, readsBack .hl⟩

end Sys2Proof.Machine
end

section
/-! PROOFS. The statements of 20_memory.md about a byte write and the instruction cycle (R61, R77, R90), and the equations
of one step they rest on. -/

namespace Sys2Proof.Machine

/-- Settles O5: the frame and the bytes of a byte write, each from its rule. -/
theorem memoryWriteChangesOneCell : Obligations.MemoryWriteChangesOneCell :=
  fun a v s => ⟨writeByte_eq_with_mem a v s, storesByte_writeByte a v s⟩

/-! ### One step, by the run state and by what the bytes at PC decode to -/

theorem step_of_not_running {s : State} (h : s.run ≠ .running) : step s = .next s := by
  obtain ⟨hr, -⟩ | ⟨hr, -⟩ | ⟨-, hs⟩ := step_cases s
  · exact absurd hr h
  · exact absurd hr h
  · exact hs

theorem step_of_running {s : State} (h : s.run = .running) : step s = runOne s := by
  simp only [step, cycle, h]

theorem runOne_of_decode_ok {s : State} {i : Instr} {rest : List Byte} (h : decode (fetchBytes s) = .ok (i, rest)) :
    runOne s = exec i (fetchOpcode s) := by
  simp only [runOne, h]

theorem runOne_of_decode_error {s : State} {e : DecodeError} (h : decode (fetchBytes s) = .error e) :
    runOne s = .next (unmappedOpcode s) := by
  simp only [runOne, h]

/-- Settles O14: the run state chooses between standing still and `runOne`, and the decoder's answer chooses between
executing and the fault. -/
theorem stepFetchesDecodesExecutes : Obligations.StepFetchesDecodesExecutes := by
  intro s bytes fetched
  refine ⟨step_of_not_running, fun hr i rest hd => ?executes, fun hr e hd => ?faults⟩
  case executes => exact (step_of_running hr).trans (runOne_of_decode_ok hd)
  case faults =>
    calc step s = runOne s := step_of_running hr
      _ = .next (unmappedOpcode s) := runOne_of_decode_error hd
      _ = .next { fetched with run := .faulted (.invalidOpcode s.pc (readByte s.pc s)) } := by rw [unmappedOpcode_eq]

end Sys2Proof.Machine
end

section
/-! PROOFS. The statement of 30_encoding.md about the opcodes the source itself states (R98), from the round trip of each
instruction and the list of unmapped opcodes. -/

namespace Sys2Proof

/-- The decoder's half of a round trip. -/
theorem Laws.RoundTrip.Statement.decode_encode_append {i : Instr} (h : Statement i) (rest : List Byte) :
    decode (encode i ++ rest) = .ok (i, rest) :=
  h.left rest

/-- A decode miss reads the opcode byte alone, so it does not depend on what follows (R101). -/
theorem decode_of_mem_unmappedOpcodes {op : Byte} (h : op ∈ unmappedOpcodes) (rest : List Byte) :
    decode (op :: rest) = .error (.unmapped op) := by
  have hform : opcodeForm op = .unmapped := (opcodeForm_unmapped_iff op).mpr h
  simp only [decode, hform]

open Laws in
/-- Settles O9: the five mapped opcodes are the encodings of their instructions, and 0x08 is on the list of R101. -/
theorem attestedOpcodesDecode : Obligations.AttestedOpcodesDecode := by
  intro v rest
  have unmapped08 : 0x08#8 ∈ unmappedOpcodes := by decide
  exact ⟨RoundTrip.nop.decode_encode_append rest, (RoundTrip.mviA v).decode_encode_append rest,
    (RoundTrip.mviB v).decode_encode_append rest, RoundTrip.addB.decode_encode_append rest,
    RoundTrip.hlt.decode_encode_append rest, decode_of_mem_unmappedOpcodes unmapped08 rest⟩

end Sys2Proof
end

section
/-! PROOFS. The statements of 40_arithmetic.md about the additions and subtractions on A (R122 to R129). What an operation
on A leaves unchanged is said once for all eight of them; what A and the flags hold is the rule of its own operation. -/

namespace Sys2Proof.Machine

/-! ### What every operation on A leaves unchanged -/

/-- An operation on A touches A and the flags alone (R96). -/
theorem aluByte_eq_with_a_flags (op : AluOp) (v : Byte) (s : State) :
    aluByte op v s = { s with a := (aluByte op v s).a, flags := (aluByte op v s).flags } := by
  cases op <;> rfl

/-- The register and M forms complete, and keep all but A and the flags. -/
theorem exec_alu_of_aluByte {op : AluOp} {o : Operand} {s : State} {Q : State → Prop}
    (h : Q (aluByte op (readOperand o s) s)) :
    ∃ t, exec (.alu op o) s = .next t ∧ t = { s with a := t.a, flags := t.flags } ∧ Q t :=
  ⟨_, exec_alu s op o, aluByte_eq_with_a_flags op _ s, h⟩

/-- The immediate form completes, and keeps all but A, the flags and PC, which the operand's fetch moves one further. -/
theorem exec_aluImm_of_aluByte {op : AluOp} {v : Byte} {s : State} {Q : State → Prop}
    (h : Q (aluByte op v (takeByte s))) :
    ∃ t, exec (.aluImm op v) s = .next t ∧ t = { s with pc := s.pc + 1#16, a := t.a, flags := t.flags } ∧ Q t :=
  ⟨_, exec_aluImm s op v, aluByte_eq_with_a_flags op v (takeByte s), h⟩

/-! ### What A and the flags hold -/

theorem holdsSum_addByte (v : Byte) (s : State) : HoldsSum (s.a.toNat + v.toNat) (addByte v s) :=
  holdsSum_accumulate _ s

theorem holdsSum_adcByte (v : Byte) (s : State) :
    HoldsSum (s.a.toNat + v.toNat + s.flags.cy.toNat) (adcByte v s) :=
  holdsSum_accumulate _ s

theorem holdsDifference_subByte (v : Byte) (s : State) :
    HoldsDifference ((s.a.toNat : Int) - v.toNat) (subByte v s) :=
  holdsDifference_accumulate _ s

theorem holdsDifference_sbbByte (v : Byte) (s : State) :
    HoldsDifference ((s.a.toNat : Int) - v.toNat - s.flags.cy.toNat) (sbbByte v s) :=
  holdsDifference_accumulate _ s

/-! ### The statements

The operand's fetch changes neither A nor the carry, so the rule of the operation at `takeByte s` speaks of the old ones. -/

/-- Settles O19: the frame is that of every operation on A, the sum and its flags are the rule of `addByte`. -/
theorem addWritesSumAndFlags : Obligations.AddWritesSumAndFlags := by
  intro o v s
  exact ⟨exec_alu_of_aluByte (op := .add) (holdsSum_addByte (readOperand o s) s),
    exec_aluImm_of_aluByte (op := .add) (holdsSum_addByte v (takeByte s))⟩

/-- Settles O20: the frame is that of every operation on A, the sum with the old carry is the rule of `adcByte`. -/
theorem addWithCarryReadsOldCarry : Obligations.AddWithCarryReadsOldCarry := by
  intro o v s
  exact ⟨exec_alu_of_aluByte (op := .adc) (holdsSum_adcByte (readOperand o s) s),
    exec_aluImm_of_aluByte (op := .adc) (holdsSum_adcByte v (takeByte s))⟩

/-- Settles O21: the frame is that of every operation on A, the difference and its borrow are the rule of `subByte`. -/
theorem subtractWritesDifferenceAndBorrow : Obligations.SubtractWritesDifferenceAndBorrow := by
  intro o v s
  exact ⟨exec_alu_of_aluByte (op := .sub) (holdsDifference_subByte (readOperand o s) s),
    exec_aluImm_of_aluByte (op := .sub) (holdsDifference_subByte v (takeByte s))⟩

/-- Settles O22: the frame is that of every operation on A, the difference less the old carry is the rule of `sbbByte`. -/
theorem subtractWithBorrowReadsOldCarry : Obligations.SubtractWithBorrowReadsOldCarry := by
  intro o v s
  exact ⟨exec_alu_of_aluByte (op := .sbb) (holdsDifference_sbbByte (readOperand o s) s),
    exec_aluImm_of_aluByte (op := .sbb) (holdsDifference_sbbByte v (takeByte s))⟩

end Sys2Proof.Machine
end

section
/-! PROOFS. The statements of 41_logic.md about the operations on A bit by bit (R151 to R156) and about CMA, STC and CMC
(R157, R245, R246). -/

namespace Sys2Proof.Machine

/-! ### What A and the flags hold -/

theorem holdsBitwise_andByte (v : Byte) (s : State) : HoldsBitwise (fun x y => x && y) v s (andByte v s) :=
  holdsBitwise_accumulate s fun _ _ => BitVec.getLsbD_and

theorem holdsBitwise_xorByte (v : Byte) (s : State) : HoldsBitwise (fun x y => x != y) v s (xorByte v s) :=
  holdsBitwise_accumulate s fun _ _ => BitVec.getLsbD_xor

theorem holdsBitwise_orByte (v : Byte) (s : State) : HoldsBitwise (fun x y => x || y) v s (orByte v s) :=
  holdsBitwise_accumulate s fun _ _ => BitVec.getLsbD_or

/-- `0xFF - A` is the exact difference: a byte never exceeds 0xFF, so nothing is borrowed. -/
theorem toNat_complementA_a (s : State) : (complementA s).a.toNat = 255 - s.a.toNat :=
  BitVec.toNat_sub_of_le (Nat.le_of_lt_succ s.a.isLt)

/-- CMC's carry is the old one taken from 1 (R246). -/
theorem toNat_not_carry (f : Flags) : (!f.cy).toNat = 1 - f.cy.toNat := by
  cases f.cy with
  | false => rfl
  | true => rfl

/-! ### The statements

The operand's fetch does not change A, so the rule of the operation at `takeByte s` speaks of the old bits. -/

/-- Settles O27: the frame is that of every operation on A, the bits and the flags are the rules of `andByte`, `xorByte`
and `orByte`. -/
theorem logicIsBitwiseAndClearsCarry : Obligations.LogicIsBitwiseAndClearsCarry := by
  intro o v s
  exact ⟨exec_alu_of_aluByte (op := .ana) (holdsBitwise_andByte (readOperand o s) s),
    exec_aluImm_of_aluByte (op := .ana) (holdsBitwise_andByte v (takeByte s)),
    exec_alu_of_aluByte (op := .xra) (holdsBitwise_xorByte (readOperand o s) s),
    exec_aluImm_of_aluByte (op := .xra) (holdsBitwise_xorByte v (takeByte s)),
    exec_alu_of_aluByte (op := .ora) (holdsBitwise_orByte (readOperand o s) s),
    exec_aluImm_of_aluByte (op := .ora) (holdsBitwise_orByte v (takeByte s))⟩

/-- Settles O28: CMA writes A alone and STC and CMC the carry alone; what A holds is the rule of `complementA`, and the
inverted carry is 1 less the old one. -/
theorem complementAndCarryInstructions : Obligations.ComplementAndCarryInstructions := by
  intro s
  exact ⟨⟨complementA s, exec_cma s, rfl, toNat_complementA_a s⟩, exec_stc s,
    setCarry (!s.flags.cy) s, exec_cmc s, rfl, toNat_not_carry s.flags⟩

end Sys2Proof.Machine
end

section
/-! PROOFS. The statements of 42_data_movement.md about the moves, the immediate loads, the loads and stores of one byte and
XCHG (R171 to R180, R183). What a store does is said once, for any instruction that writes one byte. -/

namespace Sys2Proof.Machine

/-! ### Stores of one byte -/

/-- An instruction that writes one byte completes, and keeps all but that byte of the state it wrote in. -/
theorem exec_stores_of_writeByte {i : Instr} {a : Word} {v : Byte} {s u : State}
    (h : exec i s = .next (writeByte a v u)) :
    ∃ t, exec i s = .next t ∧ t = { u with mem := t.mem } ∧ StoresByte a v u t :=
  ⟨_, h, writeByte_eq_with_mem a v u, storesByte_writeByte a v u⟩

/-- Settles O30: both forms write one byte at `H : L`; the fetch of MVI's operand moves PC alone, so neither that address
nor a byte of memory depends on it. -/
theorem storesThroughMChangeOneByte : Obligations.StoresThroughMChangeOneByte := by
  intro src v s
  have mov : exec (.movToM src) s = .next (writeByte (mkWord s.h s.l) (getReg src s) s) := exec_movToM s src
  have mvi : exec (.mviM v) s = .next (writeByte (mkWord s.h s.l) v (takeByte s)) := exec_mvi s .m v
  exact ⟨exec_stores_of_writeByte mov, exec_stores_of_writeByte mvi⟩

/-- Settles O33: the three forms write A at their address; the fetch of STA's operand moves PC and leaves the address in
W : Z, and no byte of memory depends on either. -/
theorem accumulatorStoresChangeOneByte : Obligations.AccumulatorStoresChangeOneByte := by
  intro a s
  have sta : exec (.sta a) s = .next (writeByte a s.a (takeWord a s)) := exec_sta s a
  have staxB : exec .staxB s = .next (writeByte (mkWord s.b s.c) s.a s) := exec_stax s .bc
  have staxD : exec .staxD s = .next (writeByte (mkWord s.d s.e) s.a s) := exec_stax s .de
  exact ⟨exec_stores_of_writeByte sta, exec_stores_of_writeByte staxB, exec_stores_of_writeByte staxD⟩

/-! ### Moves and loads -/

/-- Settles O29: the meaning of each of the two families of moves is the register assignment the rule gives. -/
theorem movLoadsOneRegister : Obligations.MovLoadsOneRegister := by
  intro dst src s
  exact ⟨exec_mov s dst src, exec_movFromM s dst⟩

/-- Fetching a word leaves its high byte in W and its low byte in Z (R25). -/
theorem takeWord_mkWord (hi lo : Byte) (s : State) :
    takeWord (mkWord hi lo) s = { s with pc := s.pc + 2#16, w := hi, z := lo } := by
  rw [takeWord, hiByte_mkWord, loByte_mkWord]

/-- LXI is the write of the pair in the state its operand's fetch leaves (R176). -/
theorem exec_lxi_mkWord (p : Pair) (hi lo : Byte) (s : State) :
    exec (.lxi p (mkWord hi lo)) s =
      .next (setPair p (mkWord hi lo) { s with pc := s.pc + 2#16, w := hi, z := lo }) := by
  rw [exec_lxi, loadPairImmediate, takeWord_mkWord]

/-- A pair of registers written with a word takes its high byte in the upper register, its low byte in the lower. -/
theorem setPair_mkWord (hi lo : Byte) (s : State) :
    setPair .bc (mkWord hi lo) s = { s with b := hi, c := lo } ∧
    setPair .de (mkWord hi lo) s = { s with d := hi, e := lo } ∧
    setPair .hl (mkWord hi lo) s = { s with h := hi, l := lo } := by
  simp only [setPair, hiByte_mkWord, loByte_mkWord, and_self]

/-- Settles O31: MVI assigns the register after its operand's fetch; LXI writes the pair after its own, and each half of
the pair is a byte of the word. -/
theorem immediateLoadsWriteTheirRegister : Obligations.ImmediateLoadsWriteTheirRegister := by
  refine ⟨fun r v s => exec_mvi s (.reg r) v, ?lxi⟩
  intro lo hi s fetched
  have lxi (p : Pair) : exec (.lxi p (mkWord hi lo)) s = .next (setPair p (mkWord hi lo) fetched) :=
    exec_lxi_mkWord p hi lo s
  obtain ⟨hbc, hde, hhl⟩ := setPair_mkWord hi lo fetched
  exact ⟨hbc ▸ lxi .bc, hde ▸ lxi .de, hhl ▸ lxi .hl, lxi .sp⟩

/-- Settles O32: each form assigns A the byte at its address, LDA after the fetch of that address. -/
theorem accumulatorLoadsReadOneByte : Obligations.AccumulatorLoadsReadOneByte := by
  intro a s
  exact ⟨exec_lda s a, exec_ldax s .bc, exec_ldax s .de⟩

/-! ### XCHG -/

/-- Settles O35: the meaning reads all four old values before it writes any. -/
theorem xchgSwapsHLAndDE : Obligations.XchgSwapsHLAndDE := by
  intro s
  exact exec_xchg s

end Sys2Proof.Machine
end

section
/-! PROOFS. The statements of 43_branch.md (R201 to R203), with SPHL (R221) and the conditional calls (R216): a condition
chooses between the unconditional form and the operand's fetch alone. -/

namespace Sys2Proof.Machine

/-- Settles O36: JMP assigns PC after its operand's fetch; PCHL and SPHL each assign one word from `H : L`. -/
theorem unconditionalJumpsAndSphl : Obligations.UnconditionalJumpsAndSphl := by
  intro a s
  exact ⟨exec_jmp s a, exec_pchl s, exec_sphl s⟩

/-! ### What a condition chooses -/

/-- The fetch of the operand is the same taken or not, so the condition decides PC alone (R202). -/
theorem jumpWhen_eq (cond : Cond) (a : Word) (s : State) :
    jumpWhen cond a s = { takeWord a s with pc := if condHolds cond s.flags then a else s.pc + 2#16 } := by
  rw [jumpWhen]
  split
  case isTrue => rfl
  case isFalse => rfl

theorem callWhen_of_holds {cond : Cond} {s : State} (h : condHolds cond s.flags = true) (a : Word) :
    callWhen cond a s = callTo a s := if_pos h

theorem callWhen_of_not_holds {cond : Cond} {s : State} (h : condHolds cond s.flags = false) (a : Word) :
    callWhen cond a s = takeWord a s := if_neg (ne_true_of_eq_false h)

/-- Settles O37: Jcc fetches its operand and lets the condition choose PC; Ccc is CALL or that fetch alone. -/
theorem conditionalJumpsAndCallsConsumeOperand : Obligations.ConditionalJumpsAndCallsConsumeOperand := by
  intro cond a s
  refine ⟨⟨_, exec_jumpIf s cond a, jumpWhen_eq cond a s⟩, fun taken => ?callTaken, fun untaken => ?callUntaken⟩
  case callTaken =>
    have same : exec (.callIf cond a) s = .next (callTo a s) := by rw [exec_callIf, callWhen_of_holds taken]
    exact ⟨callTo a s, same, exec_call s a⟩
  case callUntaken =>
    calc exec (.callIf cond a) s = .next (callWhen cond a s) := exec_callIf s cond a
      _ = .next (takeWord a s) := by rw [callWhen_of_not_holds untaken]

end Sys2Proof.Machine
end

section
/-! PROOFS. The statements of 44_stack_subroutine.md about PUSH, POP, CALL, RET and the conditional returns (R211 to R215,
R217, R218), and of the opcode fields' code tables (R27, R28, R36). -/

namespace Sys2Proof.Machine

/-! ### PUSH and POP -/

/-- Settles O38: PUSH pushes a word, whose two halves are the two registers the rule names. -/
theorem pushStoresHighThenLow : Obligations.PushStoresHighThenLow := by
  intro p s
  have stored := storesBytes_pushWord (stackPairValue p s) s
  rw [hiByte_stackPairValue, loByte_stackPairValue] at stored
  exact ⟨pushPair p s, exec_push s p, pushWord_eq (stackPairValue p s) s, stored⟩

/-- POP writes its pair with the word at SP, in the state whose SP has moved past it (R213, R214). -/
theorem popPair_eq (p : StackPair) (s : State) :
    popPair p s =
      setStackPair p (mkWord (readByte (s.sp + 1#16) s) (readByte s.sp s)) { s with sp := s.sp + 2#16 } := by
  rw [popPair, popWordValue_eq, poppedWord_eq]

/-- PSW written with a word takes its high byte in A and bits 7, 6, 2 and 0 of its low byte in the flags (R214). -/
theorem setStackPair_psw_mkWord (hi lo : Byte) (s : State) :
    setStackPair .psw (mkWord hi lo) s = { s with
      a := hi,
      flags := { s := lo.getLsbD 7, z := lo.getLsbD 6, p := lo.getLsbD 2, cy := lo.getLsbD 0 } } := by
  simp only [setStackPair, flagsOfImage, hiByte_mkWord, loByte_mkWord]

/-- Settles O39: each form writes its pair with the word at SP, and each half of the pair is a byte of that word. -/
theorem popLoadsLowThenHigh : Obligations.PopLoadsLowThenHigh := by
  intro s lo hi
  have pop (p : StackPair) :
      exec (.pop p) s = .next (setStackPair p (mkWord hi lo) { s with sp := s.sp + 2#16 }) := by
    rw [exec_pop, popPair_eq]
  obtain ⟨hbc, hde, hhl⟩ := setPair_mkWord hi lo { s with sp := s.sp + 2#16 }
  have hpsw := setStackPair_psw_mkWord hi lo { s with sp := s.sp + 2#16 }
  exact ⟨hbc ▸ pop .bc, hde ▸ pop .de, hhl ▸ pop .hl, hpsw ▸ pop .psw⟩

/-! ### CALL and RET -/

/-- CALL stores the address after its operand: the fetch of the operand moves PC past it, and neither SP nor memory
depends on that fetch (R215). -/
theorem storesBytes_callTo (a : Word) (s : State) :
    StoresBytes (s.sp - 1#16) (hiByte (s.pc + 2#16)) (s.sp - 2#16) (loByte (s.pc + 2#16)) s (callTo a s) :=
  storesBytes_pushWord (s.pc + 2#16) (takeWord a s)

/-- Settles O40: the frame and the bytes of CALL, each from its rule. -/
theorem callPushesReturnAddress : Obligations.CallPushesReturnAddress :=
  fun a s => ⟨callTo a s, exec_call s a, callTo_eq a s, storesBytes_callTo a s⟩

/-- RET after CALL takes PC to the return address, wherever PC and IR have moved since: the two bytes at SP are the word
that CALL pushed (R217). -/
theorem returnToCaller_callTo_pc (a pc : Word) (opcode : Byte) (s : State) :
    (returnToCaller { callTo a s with ir := opcode, pc := pc }).pc = s.pc + 2#16 :=
  popWordValue_pushWord (s.pc + 2#16) (takeWord a s)

/-- RET after CALL takes SP back to where it was (R217). -/
theorem returnToCaller_callTo_sp (a pc : Word) (opcode : Byte) (s : State) :
    (returnToCaller { callTo a s with ir := opcode, pc := pc }).sp = s.sp :=
  sp_after_push_pop (s.pc + 2#16) (takeWord a s)

/-- Settles O41: RET pops a word into PC, Rcc is RET or nothing, and the word that RET pops right after a CALL is the one
that CALL pushed. -/
theorem returnUndoesCall : Obligations.ReturnUndoesCall := by
  intro cond a opcode s returned
  have ret : exec .ret s = .next returned := by rw [exec_ret, returnToCaller_eq]
  have retIf : exec (.returnIf cond) s = .next (if condHolds cond s.flags then returned else s) := by
    rw [exec_returnIf, returnWhen, returnToCaller_eq]
  exact ⟨ret, retIf, callTo a s, _, exec_call s a, exec_ret _,
    returnToCaller_callTo_pc a _ opcode s, returnToCaller_callTo_sp a _ opcode s⟩

/-! ### The codes of the opcode fields -/

/-- Settles O7: each table lists, code by code, the meaning of the operand, pair or condition that the code selects. -/
theorem opcodeFieldCodesSelectOperands : Obligations.OpcodeFieldCodesSelectOperands := by
  intro v x s f
  refine ⟨?readRegister, ?writeRegister, ?readPair, ?writePair, ?readStackPair, ?writeStackPair, ?testCondition⟩
  case readRegister => rfl
  case writeRegister => rfl
  case readPair => rfl
  case writePair => rfl
  case readStackPair => rfl
  case writeStackPair => rfl
  case testCondition => rfl

end Sys2Proof.Machine
end

section
/-! PROOFS. The statements of 45_io_control.md about IN, OUT, HLT and NOP (R230 to R233), and the rules they rest on: what
an instruction can do to the run state, the bytes of a decoded instruction, and the step at an opcode of one byte. -/

namespace Sys2Proof

open Sys2Proof.Machine

/-! ### The bytes of a decoded instruction -/

/-- Decoding consumes exactly the encoding of its answer (R93, R95): one case for each form an opcode can have. -/
theorem eq_encode_append_of_decode {bytes rest : List Byte} {i : Instr} (h : decode bytes = .ok (i, rest)) :
    bytes = encode i ++ rest := by
  cases bytes with
  | nil => cases h
  | cons op tail =>
    have agrees := formAgrees op
    unfold FormAgrees at agrees
    cases hform : opcodeForm op with
    | unmapped => simp [decode, hform] at h
    | oneByte j =>
      simp only [hform] at agrees
      obtain ⟨rfl, rfl⟩ : j = i ∧ tail = rest := by simpa [decode, hform] using h
      rw [agrees.2]; rfl
    | withByte f =>
      simp only [hform] at agrees
      match tail with
      | [] => simp [decode, hform] at h
      | v :: tail =>
        obtain ⟨rfl, rfl⟩ : f v = i ∧ tail = rest := by simpa [decode, hform] using h
        rw [agrees.2]; rfl
    | withWord f =>
      simp only [hform] at agrees
      match tail with
      | [] => simp [decode, hform] at h
      | [_] => simp [decode, hform] at h
      | lo :: hi :: tail =>
        obtain ⟨rfl, rfl⟩ : f (mkWord hi lo) = i ∧ tail = rest := by simpa [decode, hform] using h
        rw [agrees.2, loByte_mkWord, hiByte_mkWord]; rfl

namespace Machine

/-- The opcode of HLT is 0x76 and no other (R100). -/
theorem opcode_of_decode_hlt {s : State} {rest : List Byte} (h : decode (fetchBytes s) = .ok (.hlt, rest)) :
    readByte s.pc s = 0x76#8 :=
  (List.cons.inj (eq_encode_append_of_decode h)).1

/-- A Running machine with the opcode of a one-byte instruction at PC executes that instruction (R90). -/
theorem step_of_opcode {i : Instr} {op : Byte} {s : State} (roundTrip : Laws.RoundTrip.Statement i)
    (henc : encode i = [op]) (hrun : s.run = .running) (hop : readByte s.pc s = op) :
    step s = exec i { s with pc := s.pc + 1#16, ir := op } := by
  have hdec := roundTrip.decode_encode_append [readByte (s.pc + 1#16) s, readByte (s.pc + 2#16) s]
  rw [henc] at hdec
  subst hop
  exact (step_of_running hrun).trans (runOne_of_decode_ok hdec)

/-! ### What an instruction can do to the run state -/

/-- R41, R258: the instruction keeps the run state, or is HLT and halts, or is a port instruction on an undefined port and
records that fault. -/
def RunStateRule (i : Instr) : Prop :=
  ∀ s t : State, exec i s = .next t →
    t.run = s.run ∨ (i = .hlt ∧ t.run = .halted) ∨
    ∃ p, (i = .inPort p ∧ p ∉ parameters.inPorts ∨ i = .outPort p ∧ p ∉ parameters.outPorts) ∧
      t.run = .faulted (.invalidPort (s.pc - 1#16) p)

/-- An instruction whose operation keeps the run state obeys the rule. -/
theorem RunStateRule.of_run_eq {i : Instr} {op : State → State} (hexec : ∀ s, exec i s = .next (op s))
    (hrun : ∀ s, (op s).run = s.run) : RunStateRule i := by
  intro s t h
  obtain rfl : op s = t := by simpa [hexec] using h
  exact .inl (hrun s)

theorem runStateRule_hlt : RunStateRule .hlt := by
  intro s t h
  obtain rfl : halt s = t := by simpa using h
  exact .inr (.inl ⟨rfl, rfl⟩)

theorem runStateRule_inPort (p : Byte) : RunStateRule (.inPort p) := by
  intro s t h
  obtain rfl : inputFrom parameters p s = t := by simpa using h
  by_cases hp : p ∈ parameters.inPorts
  · rw [inputFrom_defined hp]; exact .inl rfl
  · rw [inputFrom_undefined hp]; exact .inr (.inr ⟨p, .inl ⟨rfl, hp⟩, rfl⟩)

theorem runStateRule_outPort (p : Byte) : RunStateRule (.outPort p) := by
  intro s t h
  obtain rfl : outputTo parameters p s = t := by simpa using h
  by_cases hp : p ∈ parameters.outPorts
  · rw [outputTo_defined hp]; exact .inl rfl
  · rw [outputTo_undefined hp]; exact .inr (.inr ⟨p, .inr ⟨rfl, hp⟩, rfl⟩)

theorem aluByte_run (op : AluOp) (v : Byte) (s : State) : (aluByte op v s).run = s.run := by
  rw [aluByte_eq_with_a_flags]

theorem jumpWhen_run (cond : Cond) (a : Word) (s : State) : (jumpWhen cond a s).run = s.run := by
  rw [jumpWhen_eq]; rfl

theorem callWhen_run (cond : Cond) (a : Word) (s : State) : (callWhen cond a s).run = s.run := by
  cases h : condHolds cond s.flags with
  | true => rw [callWhen_of_holds h]; rfl
  | false => rw [callWhen_of_not_holds h]; rfl

theorem returnWhen_run (cond : Cond) (s : State) : (returnWhen cond s).run = s.run := by
  rw [returnWhen]
  split
  case isTrue => rfl
  case isFalse => rfl

/-- Every instruction obeys the rule: HLT, IN and OUT have their own cases, and each other family keeps the run state
because the one write it makes does. -/
theorem runStateRule (i : Instr) : RunStateRule i := by
  induction i using Instr.byFamily with
  | hlt => exact runStateRule_hlt
  | inPort p => exact runStateRule_inPort p
  | outPort p => exact runStateRule_outPort p
  | mov dst src => exact .of_run_eq (exec_mov · dst src) fun s => setReg_run dst _ s
  | movFromM dst => exact .of_run_eq (exec_movFromM · dst) fun s => setReg_run dst _ s
  | movToM src => exact .of_run_eq (exec_movToM · src) fun _ => rfl
  | mvi o v => exact .of_run_eq (exec_mvi · o v) fun s => writeOperand_run o v (takeByte s)
  | inr o => exact .of_run_eq (exec_inr · o) fun s => writeOperand_run o _ s
  | dcr o => exact .of_run_eq (exec_dcr · o) fun s => writeOperand_run o _ s
  | alu op o => exact .of_run_eq (exec_alu · op o) fun s => aluByte_run op _ s
  | aluImm op v => exact .of_run_eq (exec_aluImm · op v) fun s => aluByte_run op v (takeByte s)
  | lxi p v => exact .of_run_eq (exec_lxi · p v) fun s => setPair_run p v (takeWord v s)
  | inx p => exact .of_run_eq (exec_inx · p) fun s => setPair_run p _ s
  | dcx p => exact .of_run_eq (exec_dcx · p) fun s => setPair_run p _ s
  | dad p => exact .of_run_eq (exec_dad · p) fun _ => rfl
  | ldax p => exact .of_run_eq (exec_ldax · p) fun _ => rfl
  | stax p => exact .of_run_eq (exec_stax · p) fun _ => rfl
  | push p => exact .of_run_eq (exec_push · p) fun _ => rfl
  | pop p => exact .of_run_eq (exec_pop · p) fun s => setStackPair_run p _ (poppedWord s)
  | jumpIf cond a => exact .of_run_eq (exec_jumpIf · cond a) fun s => jumpWhen_run cond a s
  | callIf cond a => exact .of_run_eq (exec_callIf · cond a) fun s => callWhen_run cond a s
  | returnIf cond => exact .of_run_eq (exec_returnIf · cond) fun s => returnWhen_run cond s
  | nop => exact .of_run_eq exec_nop fun _ => rfl
  | rlc => exact .of_run_eq exec_rlc fun _ => rfl
  | rrc => exact .of_run_eq exec_rrc fun _ => rfl
  | ral => exact .of_run_eq exec_ral fun _ => rfl
  | rar => exact .of_run_eq exec_rar fun _ => rfl
  | shld a => exact .of_run_eq (exec_shld · a) fun _ => rfl
  | lhld a => exact .of_run_eq (exec_lhld · a) fun _ => rfl
  | cma => exact .of_run_eq exec_cma fun _ => rfl
  | sta a => exact .of_run_eq (exec_sta · a) fun _ => rfl
  | stc => exact .of_run_eq exec_stc fun _ => rfl
  | lda a => exact .of_run_eq (exec_lda · a) fun _ => rfl
  | cmc => exact .of_run_eq exec_cmc fun _ => rfl
  | jmp a => exact .of_run_eq (exec_jmp · a) fun _ => rfl
  | ret => exact .of_run_eq exec_ret fun _ => rfl
  | call a => exact .of_run_eq (exec_call · a) fun _ => rfl
  | xthl => exact .of_run_eq exec_xthl fun _ => rfl
  | pchl => exact .of_run_eq exec_pchl fun _ => rfl
  | xchg => exact .of_run_eq exec_xchg fun _ => rfl
  | sphl => exact .of_run_eq exec_sphl fun _ => rfl

/-! ### Into Halted and out of it -/

/-- Of the three things an instruction can do to the run state, only HLT's leads into Halted (R232). -/
theorem eq_hlt_of_exec_halts {i : Instr} {s t : State} (h : exec i s = .next t) (hs : s.run ≠ .halted)
    (ht : t.run = .halted) : i = .hlt := by
  obtain hkeep | ⟨hi, -⟩ | ⟨p, -, hfault⟩ := runStateRule i s t h
  · exact absurd (hkeep.symm.trans ht) hs
  · exact hi
  · cases ht.symm.trans hfault

/-- A step into Halted executed HLT, so IR holds its opcode (R232, R90). -/
theorem ir_of_step_halts {s t : State} (h : step s = .next t) (hs : s.run ≠ .halted) (ht : t.run = .halted) :
    t.ir = 0x76#8 := by
  obtain ⟨-, i, rest, hdec, hstep⟩ | ⟨-, -, hstep⟩ | ⟨-, hstep⟩ := step_cases s
  case inl =>
    have hexec : exec i (fetchOpcode s) = .next t := hstep.symm.trans h
    obtain rfl : i = .hlt := eq_hlt_of_exec_halts hexec hs ht
    obtain rfl : halt (fetchOpcode s) = t := by simpa using hexec
    exact opcode_of_decode_hlt hdec
  case inr.inl =>
    obtain rfl : unmappedOpcode s = t := by simpa [hstep] using h
    cases ht
  case inr.inr =>
    obtain rfl : s = t := by simpa [hstep] using h
    exact absurd ht hs

/-- A Halted machine stands still (R91). -/
theorem run_of_step_halted {s t : State} (hs : s.run = .halted) (h : step s = .next t) : t.run = .halted := by
  have stands : step s = .next s := step_of_not_running (by simp [hs])
  obtain rfl : s = t := by simpa [stands] using h
  exact hs

/-- No host action but reset touches the run state (R263, R267, R268). -/
theorem hostAct_run {x : HostAction} (hx : x ≠ .reset) (s : State) : (hostAct x s).run = s.run := by
  obtain hreset | hact := hostAct_cases x s
  · exact absurd hreset hx
  · rw [hact]

/-- Settles O47: HLT's own rule and step; only HLT's way leads into Halted, and only reset's out of it. -/
theorem hltHaltsUntilReset : Obligations.HltHaltsUntilReset := by
  refine ⟨exec_hlt, fun s hrun hop => ?steps, fun i s t => eq_hlt_of_exec_halts, fun s t => ir_of_step_halts,
    fun s hs => ⟨fun t => run_of_step_halted hs, fun x hx => (hostAct_run hx s).trans hs, ?resets⟩⟩
  case steps => exact step_of_opcode Laws.RoundTrip.hlt rfl hrun hop
  case resets => exact resetMachine_run s

/-! ### NOP -/

/-- Settles O46: NOP is the identity, so its step is the opcode fetch alone. -/
theorem nopOnlyAdvancesPc : Obligations.NopOnlyAdvancesPc :=
  fun s => ⟨exec_nop s, fun hrun hop => step_of_opcode Laws.RoundTrip.nop rfl hrun hop⟩

/-! ### IN and OUT -/

/-- Settles O44: IN assigns A the port register; OUT writes one port register, in the state its operand's fetch leaves,
where A and the other ports are the old ones. -/
theorem portInstructionsOnDefinedPorts : Obligations.PortInstructionsOnDefinedPorts := by
  intro p s
  refine ⟨fun hp => ?input, fun hp => ?output⟩
  case input => rw [exec_inPort, inputFrom_defined hp]
  case output =>
    have written : exec (.outPort p) s = .next (setOutputPort p s.a (takeByte s)) := by
      rw [exec_outPort, outputTo_defined hp]; rfl
    exact ⟨_, written, rfl, fun q => outputPort_setOutputPort p q s.a (takeByte s)⟩

/-- Settles O45: on an undefined port both record the same fault and only fetch their operand. -/
theorem portInstructionsOnUndefinedPortsFault : Obligations.PortInstructionsOnUndefinedPortsFault := by
  intro p s faulted
  refine ⟨fun hp => ?input, fun hp => ?output⟩
  case input => rw [exec_inPort, inputFrom_undefined hp]; rfl
  case output => rw [exec_outPort, outputTo_undefined hp]; rfl

end Machine

end Sys2Proof
end

section
/-! PROOFS. The statement of 46_rotate_flag.md about the rotates (R240 to R244), and the frames of the two shared rotate
operations it rests on. -/

namespace Sys2Proof.Machine

/-- A left rotate writes A and, with the bit that left A, CY (R240). -/
theorem rotateLeft_eq_with_a_cy (low : Bool) (s : State) :
    rotateLeft low s = { s with a := (rotateLeft low s).a, flags := { s.flags with cy := s.a.getLsbD 7 } } := rfl

/-- A right rotate writes A and, with the bit that left A, CY (R240). -/
theorem rotateRight_eq_with_a_cy (high : Bool) (s : State) :
    rotateRight high s = { s with a := (rotateRight high s).a, flags := { s.flags with cy := s.a.getLsbD 0 } } := rfl

/-- Settles O48: RLC and RAL are one left rotate with different bits shifted in, RRC and RAR one right rotate; the frame
and the bits of each rotate are its two rules. -/
theorem rotatesMoveOneBit : Obligations.RotatesMoveOneBit := by
  intro s old left right
  have leftRotate {i : Instr} {low : Bool} (hexec : exec i s = .next (rotateLeft low s)) : left i low :=
    ⟨_, hexec, rotateLeft_eq_with_a_cy low s, fun _ hk => getLsbD_rotateLeft low s hk⟩
  have rightRotate {i : Instr} {high : Bool} (hexec : exec i s = .next (rotateRight high s)) : right i high :=
    ⟨_, hexec, rotateRight_eq_with_a_cy high s, fun _ hk => getLsbD_rotateRight high s hk⟩
  exact ⟨leftRotate (exec_rlc s), leftRotate (exec_ral s), rightRotate (exec_rrc s), rightRotate (exec_rar s)⟩

end Sys2Proof.Machine
end

section
/-! PROOFS. The statement of 60_exceptions.md about an unmapped opcode at PC (R251), from the decode miss of R101 and the
equations of one step. -/

namespace Sys2Proof.Machine

/-- Settles O15: the list of R101 makes the decoder miss whatever follows the opcode, and a Running machine answers a
decode miss with the fault, whose rule gives the whole next state. -/
theorem unmappedOpcodeFaults : Obligations.UnmappedOpcodeFaults := by
  intro s hrun hop
  have decodeMiss : decode (fetchBytes s) = .error (.unmapped (readByte s.pc s)) :=
    decode_of_mem_unmappedOpcodes hop [readByte (s.pc + 1#16) s, readByte (s.pc + 2#16) s]
  rw [step_of_running hrun, runOne_of_decode_error decodeMiss, unmappedOpcode_eq]

end Sys2Proof.Machine
end

section
/-! PROOFS. The statements of 30_encoding.md that hold the decoder, the encoder and the lists of R94 and R101 against each
other, for every instruction and every byte sequence. -/

namespace Sys2Proof

open Sys2Proof.Machine

/-! ### From the instruction to its bytes and back -/

open Laws.RoundTrip in
/-- The round trip holds of every instruction: one lemma for each constructor, in the order of the opcodes. -/
theorem Laws.RoundTrip.statement (i : Instr) : Statement i :=
  Instr.rec (motive := Statement)
    nop lxiB staxB inxB inrB dcrB mviB rlc dadB ldaxB dcxB inrC dcrC mviC rrc lxiD staxD inxD inrD dcrD mviD ral
    dadD ldaxD dcxD inrE dcrE mviE rar lxiH shld inxH inrH dcrH mviH dadH lhld dcxH inrL dcrL mviL cma lxiSp sta
    inxSp inrM dcrM mviM stc dadSp lda dcxSp inrA dcrA mviA cmc movBB movBC movBD movBE movBH movBL movBM movBA
    movCB movCC movCD movCE movCH movCL movCM movCA movDB movDC movDD movDE movDH movDL movDM movDA movEB movEC
    movED movEE movEH movEL movEM movEA movHB movHC movHD movHE movHH movHL movHM movHA movLB movLC movLD movLE
    movLH movLL movLM movLA movMB movMC movMD movME movMH movML hlt movMA movAB movAC movAD movAE movAH movAL
    movAM movAA addB addC addD addE addH addL addM addA adcB adcC adcD adcE adcH adcL adcM adcA subB subC subD
    subE subH subL subM subA sbbB sbbC sbbD sbbE sbbH sbbL sbbM sbbA anaB anaC anaD anaE anaH anaL anaM anaA
    xraB xraC xraD xraE xraH xraL xraM xraA oraB oraC oraD oraE oraH oraL oraM oraA cmpB cmpC cmpD cmpE cmpH
    cmpL cmpM cmpA rnz popB jnz jmp cnz pushB adi rz ret jz cz call aci rnc popD jnc outPort cnc pushD sui rc jc
    inPort cc sbi rpo popH jpo xthl cpo pushH ani rpe pchl jpe xchg cpe xri rp popPsw jp cp pushPsw ori rm sphl
    jm cm cpi
    i

/-- Settles O11: the round trip of each constructor. -/
theorem decodeInvertsEncode : Obligations.DecodeInvertsEncode := Laws.RoundTrip.statement

/-- Settles O12: decoding consumes exactly the encoding of its answer, whichever form the opcode has. -/
theorem decodedBytesAreTheEncoding : Obligations.DecodedBytesAreTheEncoding := by
  intro bs i rest h
  exact eq_encode_append_of_decode h

/-! ### Byte sequences that are one instruction -/

/-- Bytes that decode with nothing left over are the encoding of their instruction, which the lists accept. -/
theorem wellFormedBytes_of_decode {bs : List Byte} {i : Instr} (h : decode bs = .ok (i, [])) :
    wellFormedBytes bs = true := by
  obtain rfl : bs = encode i := by simpa using eq_encode_append_of_decode h
  exact (decodeInvertsEncode i).2

/-- The lists give no length to an unmapped opcode (R94, R101). -/
theorem lengthOfOpcode_of_mem_unmappedOpcodes {op : Byte} (h : op ∈ unmappedOpcodes) : lengthOfOpcode op = none :=
  if_pos h

/-- Bytes of the length that the lists give their opcode decode with nothing left over: one case for each form an opcode
can have, and in each the length fixes the operand bytes. -/
theorem exists_decode_of_wellFormedBytes {bs : List Byte} (h : wellFormedBytes bs = true) :
    ∃ i, decode bs = .ok (i, []) := by
  cases bs with
  | nil => cases h
  | cons op operands =>
    have length : lengthOfOpcode op = some (operands.length + 1) := by simpa [wellFormedBytes] using h
    have agrees := formAgrees op
    unfold FormAgrees at agrees
    cases hform : opcodeForm op with
    | unmapped =>
      simp only [hform] at agrees
      simp [lengthOfOpcode_of_mem_unmappedOpcodes agrees] at length
    | oneByte i =>
      simp only [hform] at agrees
      obtain rfl : operands = [] := by simpa [agrees.1] using length.symm
      exact ⟨i, by simp [decode, hform]⟩
    | withByte f =>
      simp only [hform] at agrees
      obtain ⟨v, rfl⟩ : ∃ v, operands = [v] := by
        simpa [agrees.1, List.length_eq_one_iff] using length.symm
      exact ⟨f v, by simp [decode, hform]⟩
    | withWord f =>
      simp only [hform] at agrees
      obtain ⟨lo, hi, rfl⟩ : ∃ lo hi, operands = [lo, hi] := by
        simpa [agrees.1, List.length_eq_two] using length.symm
      exact ⟨f (mkWord hi lo), by simp [decode, hform]⟩

/-- Only an unmapped opcode is reported as one: a mapped opcode decodes, or its operand bytes are missing. -/
theorem mem_unmappedOpcodes_of_decode {op : Byte} {rest : List Byte}
    (h : decode (op :: rest) = .error (.unmapped op)) : op ∈ unmappedOpcodes := by
  rw [← opcodeForm_unmapped_iff]
  cases hform : opcodeForm op with
  | unmapped => rfl
  | oneByte i => simp [decode, hform] at h
  | withByte f => cases rest <;> simp [decode, hform] at h
  | withWord f => rcases rest with _ | ⟨lo, _ | ⟨hi, rest⟩⟩ <;> simp [decode, hform] at h

/-- Settles O13: the lists accept exactly what decodes with nothing left over, and a decode miss is exactly on R101's
list. -/
theorem wellFormedBytesAreOneInstruction : Obligations.WellFormedBytesAreOneInstruction :=
  ⟨fun _ => ⟨exists_decode_of_wellFormedBytes, fun ⟨_, h⟩ => wellFormedBytes_of_decode h⟩,
    fun _ rest => ⟨mem_unmappedOpcodes_of_decode, fun h => decode_of_mem_unmappedOpcodes h rest⟩⟩

/-- Settles O10: each word is the encoding of the instruction it stands for. -/
theorem writtenOutWordsDecode : Obligations.WrittenOutWordsDecode := by
  have decodes (i : Instr) : decode (encode i) = .ok (i, []) := by simpa using (decodeInvertsEncode i).1 []
  exact ⟨decodes .adcM, decodes (.sbi 0x5A#8), decodes .cma, decodes .movHD, decodes (.lxiH 0x1234#16),
    decodes (.sta 0xABCD#16), decodes (.jpe 0x0200#16), decodes .pushPsw, decodes (.cc 0x8001#16),
    decodes (.outPort 0x04#8), decodes .rar⟩

end Sys2Proof
end

section
/-! PROOFS. What any instruction can change, said once for all of them (R25, R29, R30, R34, R38, R64): the frame of an
instruction. -/

namespace Sys2Proof.Machine

/-! ### The writers of each part of the state -/

/-- The instructions that can change Z, S or P (R34). -/
def WritesZSP (i : Instr) : Prop :=
  (∃ op o, i = .alu op o) ∨ (∃ op v, i = .aluImm op v) ∨ (∃ o, i = .inr o ∨ i = .dcr o) ∨ i = .popPsw

/-- The instructions that can change a flag (R34). -/
def WritesFlags (i : Instr) : Prop :=
  (∃ op o, i = .alu op o) ∨ (∃ op v, i = .aluImm op v) ∨ (∃ o, i = .inr o ∨ i = .dcr o) ∨ i = .popPsw ∨
  (∃ p, i = .dad p) ∨ i = .rlc ∨ i = .rrc ∨ i = .ral ∨ i = .rar ∨ i = .stc ∨ i = .cmc

/-- The instructions that can change memory (R64). -/
def WritesMemory (i : Instr) : Prop :=
  (∃ r, i = .movToM r) ∨ (∃ v, i = .mviM v) ∨ i = .inrM ∨ i = .dcrM ∨ (∃ a, i = .sta a ∨ i = .shld a) ∨
  (∃ p, i = .stax p) ∨ (∃ p, i = .push p) ∨ (∃ a, i = .call a) ∨ (∃ cond a, i = .callIf cond a) ∨ i = .xthl

/-- The instructions that can change SP (R30). -/
def WritesSP (i : Instr) : Prop :=
  (∃ v, i = .lxiSp v) ∨ i = .inxSp ∨ i = .dcxSp ∨ i = .sphl ∨ (∃ p, i = .push p ∨ i = .pop p) ∨
  (∃ a, i = .call a) ∨ i = .ret ∨ (∃ cond, i = .returnIf cond) ∨ ∃ cond a, i = .callIf cond a

/-- What the fetch of an instruction's operand bytes leaves: PC past them, and W : Z the word they are (R11, R25). -/
def afterOperands : List Byte → State → State
  | [], s => s
  | [_], s => { s with pc := s.pc + 1#16 }
  | lo :: hi :: _, s => { s with pc := s.pc + 2#16, w := hi, z := lo }

/-- The instruction, whose operand bytes are `operands`, completes in `t`, and each part of the state is as in `s` unless the
instruction is listed for it. A part that the proof of a frame does not mention is unchanged because the meaning of the
instruction does not write it. -/
structure Frame (i : Instr) (operands : List Byte) (s t : State) : Prop where
  next : exec i s = .next t
  bytes : ∃ op, encode i = op :: operands := by exact ⟨_, rfl⟩
  w : t.w = (afterOperands operands s).w := by rfl
  z : t.z = (afterOperands operands s).z := by rfl
  pc : t.pc = (afterOperands operands s).pc ∨ Transfers i := by exact .inl rfl
  ir : t.ir = s.ir := by rfl
  inp : t.inp = s.inp := by rfl
  outp : t.outp = s.outp ∨ ∃ p, i = .outPort p := by exact .inl rfl
  zsp : { t.flags with cy := s.flags.cy } = s.flags ∨ WritesZSP i := by exact .inl rfl
  flags : t.flags = s.flags ∨ WritesFlags i := by exact .inl rfl
  mem : t.mem = s.mem ∨ WritesMemory i := by exact .inl rfl
  sp : t.sp = s.sp ∨ WritesSP i := by exact .inl rfl
  /-- No value of W or Z is read (R25). -/
  blind : ∀ w z, ∃ w' z', exec i { s with w := w, z := z } = .next { t with w := w', z := z' } := by
    exact fun _ _ => ⟨_, _, rfl⟩

/-! ### The frame of every instruction

`cases s` names the fields of the state, so that a part of the next state computes to the field it was. -/

/-- Only the word of POP PSW goes to the flags (R214). -/
theorem frame_pop (p : StackPair) (s : State) : ∃ operands t, Frame (.pop p) operands s t := by
  have listed : WritesSP (.pop p) := by simp [WritesSP, exists_or]
  cases s
  cases p with
  | psw =>
    exact ⟨_, _, { next := exec_pop _ .psw, sp := .inr listed, flags := .inr (by simp [WritesFlags, Instr.pop]),
                   zsp := .inr (by simp [WritesZSP, Instr.pop]) }⟩
  | _ => exact ⟨_, _, { next := exec_pop _ _, sp := .inr listed }⟩

theorem encode_jumpIf (cond : Cond) (a : Word) : ∃ op, encode (.jumpIf cond a) = [op, loByte a, hiByte a] := by
  cases cond <;> exact ⟨_, rfl⟩

/-- Jcc decides PC alone (R202). -/
theorem frame_jumpIf (cond : Cond) (a : Word) (s : State) : ∃ operands t, Frame (.jumpIf cond a) operands s t := by
  have next (u : State) : exec (.jumpIf cond a) u =
      .next { takeWord a u with pc := if condHolds cond u.flags then a else u.pc + 2#16 } := by
    rw [exec_jumpIf, jumpWhen_eq]
  exact ⟨_, _, { next := next s, bytes := encode_jumpIf cond a, pc := .inr (by simp [Transfers, exists_or]),
                 blind := fun w z => ⟨hiByte a, loByte a, next { s with w := w, z := z }⟩ }⟩

theorem encode_callIf (cond : Cond) (a : Word) : ∃ op, encode (.callIf cond a) = [op, loByte a, hiByte a] := by
  cases cond <;> exact ⟨_, rfl⟩

/-- Ccc is CALL or the fetch of its operand (R216). -/
theorem frame_callIf (cond : Cond) (a : Word) (s : State) : ∃ operands t, Frame (.callIf cond a) operands s t := by
  have bytes := encode_callIf cond a
  have transfers : Transfers (.callIf cond a) := by simp [Transfers, exists_or]
  have listed : WritesMemory (.callIf cond a) ∧ WritesSP (.callIf cond a) := by simp [WritesMemory, WritesSP]
  cases h : condHolds cond s.flags with
  | true =>
    have next (u : State) (hu : condHolds cond u.flags = true) : exec (.callIf cond a) u = .next (callTo a u) := by
      rw [exec_callIf, callWhen_of_holds hu]
    exact ⟨_, _, { next := next s h, bytes := bytes, pc := .inr transfers, mem := .inr listed.1, sp := .inr listed.2,
                   blind := fun w z => ⟨_, _, next { s with w := w, z := z } h⟩ }⟩
  | false =>
    have next (u : State) (hu : condHolds cond u.flags = false) :
        exec (.callIf cond a) u = .next (takeWord a u) := by rw [exec_callIf, callWhen_of_not_holds hu]
    exact ⟨_, _, { next := next s h, bytes := bytes, pc := .inr transfers,
                   blind := fun w z => ⟨_, _, next { s with w := w, z := z } h⟩ }⟩

theorem encode_returnIf (cond : Cond) : ∃ op, encode (.returnIf cond) = [op] := by
  cases cond <;> exact ⟨_, rfl⟩

/-- Rcc is RET or nothing (R218). -/
theorem frame_returnIf (cond : Cond) (s : State) : ∃ operands t, Frame (.returnIf cond) operands s t := by
  have bytes := encode_returnIf cond
  have listed : Transfers (.returnIf cond) ∧ WritesSP (.returnIf cond) := by simp [Transfers, WritesSP]
  cases h : condHolds cond s.flags with
  | true =>
    have next (u : State) (hu : condHolds cond u.flags = true) :
        exec (.returnIf cond) u = .next (returnToCaller u) := by rw [exec_returnIf, returnWhen, if_pos hu]
    exact ⟨_, _, { next := next s h, bytes := bytes, pc := .inr listed.1, sp := .inr listed.2,
                   blind := fun w z => ⟨_, _, next { s with w := w, z := z } h⟩ }⟩
  | false =>
    have next (u : State) (hu : condHolds cond u.flags = false) : exec (.returnIf cond) u = .next u := by
      rw [exec_returnIf, returnWhen, if_neg (ne_true_of_eq_false hu)]
    exact ⟨_, _, { next := next s h, bytes := bytes, blind := fun w z => ⟨_, _, next { s with w := w, z := z } h⟩ }⟩

/-- IN assigns A or the run state (R230, R252). -/
theorem frame_inPort (p : Byte) (s : State) : ∃ operands t, Frame (.inPort p) operands s t := by
  by_cases hp : p ∈ parameters.inPorts
  · have next (u : State) : exec (.inPort p) u = .next { u with pc := u.pc + 1#16, a := inputPort p u } := by
      rw [exec_inPort, inputFrom_defined hp]
    exact ⟨_, _, { next := next s, blind := fun w z => ⟨w, z, next { s with w := w, z := z }⟩ }⟩
  · have next (u : State) : exec (.inPort p) u =
        .next { u with pc := u.pc + 1#16, run := .faulted (.invalidPort (opcodeAddress u) p) } := by
      rw [exec_inPort, inputFrom_undefined hp]
    exact ⟨_, _, { next := next s, blind := fun w z => ⟨w, z, next { s with w := w, z := z }⟩ }⟩

/-- OUT writes an output port register or the run state (R231, R252). -/
theorem frame_outPort (p : Byte) (s : State) : ∃ operands t, Frame (.outPort p) operands s t := by
  by_cases hp : p ∈ parameters.outPorts
  · have next (u : State) : exec (.outPort p) u =
        .next { u with pc := u.pc + 1#16, outp := Cells.write u.outp p.toNat u.a } := by
      rw [exec_outPort, outputTo_defined hp]
    exact ⟨_, _, { next := next s, outp := .inr ⟨p, rfl⟩,
                   blind := fun w z => ⟨w, z, next { s with w := w, z := z }⟩ }⟩
  · have next (u : State) : exec (.outPort p) u =
        .next { u with pc := u.pc + 1#16, run := .faulted (.invalidPort (opcodeAddress u) p) } := by
      rw [exec_outPort, outputTo_undefined hp]
    exact ⟨_, _, { next := next s, blind := fun w z => ⟨w, z, next { s with w := w, z := z }⟩ }⟩

/-- The registers that an operation on A reads are among the fields of the state, whatever its operand. -/
theorem frame_alu (op : AluOp) (o : Operand) (s : State) : ∃ operands t, Frame (.alu op o) operands s t := by
  have listed : WritesFlags (.alu op o) ∧ WritesZSP (.alu op o) := by simp [WritesFlags, WritesZSP]
  cases s
  cases op <;> rcases o with ⟨⟨⟩⟩ | _ <;>
    exact ⟨_, _, { next := exec_alu _ _ _, flags := .inr listed.1, zsp := .inr listed.2 }⟩

/-- Every instruction completes in a state with its frame. A case names the parts its family writes. -/
theorem exists_frame (i : Instr) (s : State) : ∃ operands t, Frame i operands s t := by
  cases s
  induction i using Instr.byFamily with
  | mov dst src => cases dst <;> cases src <;> exact ⟨_, _, { next := exec_mov _ _ _ }⟩
  | movFromM dst => cases dst <;> exact ⟨_, _, { next := exec_movFromM _ _ }⟩
  | movToM src =>
    have listed : WritesMemory (.movToM src) := by simp [WritesMemory]
    cases src <;> exact ⟨_, _, { next := exec_movToM _ _, mem := .inr listed }⟩
  | mvi o v =>
    cases o with
    | reg r => cases r <;> exact ⟨_, _, { next := exec_mvi _ _ v }⟩
    | m => exact ⟨_, _, { next := exec_mvi _ .m v, mem := .inr (by simp [WritesMemory, Instr.mvi]) }⟩
  | inr o =>
    have listed : WritesFlags (.inr o) ∧ WritesZSP (.inr o) := by simp [WritesFlags, WritesZSP, exists_or]
    cases o with
    | reg r => cases r <;> exact ⟨_, _, { next := exec_inr _ _, flags := .inr listed.1, zsp := .inr listed.2 }⟩
    | m =>
      exact ⟨_, _, { next := exec_inr _ .m, flags := .inr listed.1, zsp := .inr listed.2,
                     mem := .inr (by simp [WritesMemory, Instr.inr]) }⟩
  | dcr o =>
    have listed : WritesFlags (.dcr o) ∧ WritesZSP (.dcr o) := by simp [WritesFlags, WritesZSP, exists_or]
    cases o with
    | reg r => cases r <;> exact ⟨_, _, { next := exec_dcr _ _, flags := .inr listed.1, zsp := .inr listed.2 }⟩
    | m =>
      exact ⟨_, _, { next := exec_dcr _ .m, flags := .inr listed.1, zsp := .inr listed.2,
                     mem := .inr (by simp [WritesMemory, Instr.dcr]) }⟩
  | alu op o => exact frame_alu op o _
  | aluImm op v =>
    have listed : WritesFlags (.aluImm op v) ∧ WritesZSP (.aluImm op v) := by simp [WritesFlags, WritesZSP]
    cases op <;> exact ⟨_, _, { next := exec_aluImm _ _ v, flags := .inr listed.1, zsp := .inr listed.2 }⟩
  | lxi p v =>
    cases p with
    | sp => exact ⟨_, _, { next := exec_lxi _ .sp v, sp := .inr (by simp [WritesSP, Instr.lxi]) }⟩
    | _ => exact ⟨_, _, { next := exec_lxi _ _ v }⟩
  | inx p =>
    cases p with
    | sp => exact ⟨_, _, { next := exec_inx _ .sp, sp := .inr (by simp [WritesSP, Instr.inx]) }⟩
    | _ => exact ⟨_, _, { next := exec_inx _ _ }⟩
  | dcx p =>
    cases p with
    | sp => exact ⟨_, _, { next := exec_dcx _ .sp, sp := .inr (by simp [WritesSP, Instr.dcx]) }⟩
    | _ => exact ⟨_, _, { next := exec_dcx _ _ }⟩
  | dad p =>
    have listed : WritesFlags (.dad p) := by simp [WritesFlags]
    cases p <;> exact ⟨_, _, { next := exec_dad _ _, flags := .inr listed }⟩
  | ldax p => cases p <;> exact ⟨_, _, { next := exec_ldax _ _ }⟩
  | stax p =>
    have listed : WritesMemory (.stax p) := by simp [WritesMemory]
    cases p <;> exact ⟨_, _, { next := exec_stax _ _, mem := .inr listed }⟩
  | push p =>
    have listed : WritesMemory (.push p) ∧ WritesSP (.push p) := by simp [WritesMemory, WritesSP, exists_or]
    cases p <;> exact ⟨_, _, { next := exec_push _ _, mem := .inr listed.1, sp := .inr listed.2 }⟩
  | pop p => exact frame_pop p _
  | jumpIf cond a => exact frame_jumpIf cond a _
  | callIf cond a => exact frame_callIf cond a _
  | returnIf cond => exact frame_returnIf cond _
  | nop => exact ⟨_, _, { next := exec_nop _ }⟩
  | rlc => exact ⟨_, _, { next := exec_rlc _, flags := .inr (by simp [WritesFlags]) }⟩
  | rrc => exact ⟨_, _, { next := exec_rrc _, flags := .inr (by simp [WritesFlags]) }⟩
  | ral => exact ⟨_, _, { next := exec_ral _, flags := .inr (by simp [WritesFlags]) }⟩
  | rar => exact ⟨_, _, { next := exec_rar _, flags := .inr (by simp [WritesFlags]) }⟩
  | shld a => exact ⟨_, _, { next := exec_shld _ a, mem := .inr (by simp [WritesMemory]) }⟩
  | lhld a => exact ⟨_, _, { next := exec_lhld _ a }⟩
  | cma => exact ⟨_, _, { next := exec_cma _ }⟩
  | sta a => exact ⟨_, _, { next := exec_sta _ a, mem := .inr (by simp [WritesMemory]) }⟩
  | stc => exact ⟨_, _, { next := exec_stc _, flags := .inr (by simp [WritesFlags]) }⟩
  | lda a => exact ⟨_, _, { next := exec_lda _ a }⟩
  | cmc => exact ⟨_, _, { next := exec_cmc _, flags := .inr (by simp [WritesFlags]) }⟩
  | hlt => exact ⟨_, _, { next := exec_hlt _ }⟩
  | jmp a => exact ⟨_, _, { next := exec_jmp _ a, pc := .inr (by simp [Transfers, exists_or]) }⟩
  | ret => exact ⟨_, _, { next := exec_ret _, pc := .inr (by simp [Transfers]), sp := .inr (by simp [WritesSP]) }⟩
  | call a =>
    exact ⟨_, _, { next := exec_call _ a, pc := .inr (by simp [Transfers, exists_or]),
                   mem := .inr (by simp [WritesMemory]), sp := .inr (by simp [WritesSP]) }⟩
  | outPort p => exact frame_outPort p _
  | inPort p => exact frame_inPort p _
  | xthl => exact ⟨_, _, { next := exec_xthl _, mem := .inr (by simp [WritesMemory]) }⟩
  | pchl => exact ⟨_, _, { next := exec_pchl _, pc := .inr (by simp [Transfers]) }⟩
  | xchg => exact ⟨_, _, { next := exec_xchg _ }⟩
  | sphl => exact ⟨_, _, { next := exec_sphl _, sp := .inr (by simp [WritesSP]) }⟩

end Sys2Proof.Machine
end

section
/-! PROOFS. The statements about all instructions (R25, R29, R30, R34, R38, R41, R64) and about every step (R31, R90, R91),
each read off the frame of an instruction. -/

namespace Sys2Proof.Machine

/-- Whatever an instruction completes in has its frame: there is one such state. -/
theorem frame_of_exec {i : Instr} {s t : State} (h : exec i s = .next t) : ∃ operands, Frame i operands s t := by
  obtain ⟨operands, t', frame⟩ := exists_frame i s
  obtain rfl : t' = t := by simpa [h, eq_comm] using frame.next
  exact ⟨operands, frame⟩

theorem step_of_decode_ok {s : State} {i : Instr} {rest : List Byte} (hrun : s.run = .running)
    (hdec : decode (fetchBytes s) = .ok (i, rest)) : step s = exec i (fetchOpcode s) :=
  (step_of_running hrun).trans (runOne_of_decode_ok hdec)

theorem step_of_decode_error {s : State} {e : DecodeError} (hrun : s.run = .running)
    (hdec : decode (fetchBytes s) = .error e) : step s = .next (unmappedOpcode s) :=
  (step_of_running hrun).trans (runOne_of_decode_error hdec)

/-! ### Flags, memory and run state -/

/-- Settles O49: a flag, or one of Z, S and P, is as before unless the instruction is listed for it. -/
theorem onlyListedInstructionsWriteFlags : Obligations.OnlyListedInstructionsWriteFlags := by
  intro i s t h
  obtain ⟨operands, frame⟩ := frame_of_exec h
  exact ⟨frame.flags.resolve_left, frame.zsp.resolve_left⟩

/-- Settles O50: memory is as before unless the instruction is listed as writing it. -/
theorem onlyStoringInstructionsWriteMemory : Obligations.OnlyStoringInstructionsWriteMemory := by
  intro i s t h
  obtain ⟨operands, frame⟩ := frame_of_exec h
  exact frame.mem.resolve_left

/-- Settles O52: the rule of the run state for every instruction, without its first case. -/
theorem onlyHltHaltsAndOnlyPortsFault : Obligations.OnlyHltHaltsAndOnlyPortsFault := by
  intro i s t h
  exact (runStateRule i s t h).resolve_left

/-! ### SP, W, Z and the ports -/

/-- Unless the instruction has three bytes, its operand's fetch leaves W and Z alone (R25). -/
theorem afterOperands_scratch {operands : List Byte} (h : operands.length < 2) (s : State) :
    (afterOperands operands s).w = s.w ∧ (afterOperands operands s).z = s.z := by
  match operands with
  | [] => exact ⟨rfl, rfl⟩
  | [_] => exact ⟨rfl, rfl⟩
  | _ :: _ :: _ => simp at h

theorem lengthOfOpcode_le {op : Byte} {n : Nat} (h : lengthOfOpcode op = some n) : n ≤ 3 := by
  unfold lengthOfOpcode at h
  split_ifs at h <;> cases h <;> decide

/-- An instruction has at most two operand bytes (R93). -/
theorem Frame.length_operands_le {i : Instr} {operands : List Byte} {s t : State} (frame : Frame i operands s t) :
    operands.length ≤ 2 := by
  obtain ⟨op, bytes⟩ := frame.bytes
  have wellFormed : wellFormedBytes (op :: operands) = true := bytes ▸ (decodeInvertsEncode i).2
  have length : lengthOfOpcode op = some (operands.length + 1) := by simpa [wellFormedBytes] using wellFormed
  exact Nat.le_of_succ_le_succ (lengthOfOpcode_le length)

/-- Settles O51: SP and the ports are as before unless the instruction is listed for them; W and Z are what the operand's
fetch leaves, which depends on the number of operand bytes. -/
theorem spScratchAndPortsHaveFewWriters : Obligations.SpScratchAndPortsHaveFewWriters := by
  intro i s t h
  obtain ⟨operands, frame⟩ := frame_of_exec h
  obtain ⟨op, bytes⟩ := frame.bytes
  refine ⟨frame.sp.resolve_left, fun op' lo hi three => ?loaded, fun notThree => ?kept, frame.inp,
    frame.outp.resolve_left⟩
  case loaded =>
    obtain ⟨rfl, rfl⟩ : op = op' ∧ operands = [lo, hi] := by simpa [bytes] using three
    exact ⟨frame.z, frame.w⟩
  case kept =>
    have few : operands.length < 2 := by
      have := frame.length_operands_le
      simp [bytes] at notThree
      omega
    obtain ⟨hw, hz⟩ := afterOperands_scratch few s
    exact ⟨frame.z.trans hz, frame.w.trans hw⟩

/-! ### The program counter -/

/-- The operand's fetch moves PC by one for each operand byte, modulo 65536 (R11, R29). -/
theorem afterOperands_pc {operands : List Byte} (h : operands.length ≤ 2) (s : State) :
    (afterOperands operands s).pc = s.pc + BitVec.ofNat 16 operands.length := by
  match operands with
  | [] => exact (BitVec.add_zero s.pc).symm
  | [_] => rfl
  | [_, _] => rfl
  | _ :: _ :: _ :: _ => simp at h

/-- Settles O18: the opcode's fetch moves PC by one and the operand's fetch by one for each of its bytes; the instruction
writes PC no further. -/
theorem pcAdvancesByInstructionLength : Obligations.PcAdvancesByInstructionLength := by
  intro s i rest hrun hdec notTransfers
  obtain ⟨operands, t, frame⟩ := exists_frame i (fetchOpcode s)
  obtain ⟨op, bytes⟩ := frame.bytes
  refine ⟨t, (step_of_decode_ok hrun hdec).trans frame.next, ?_⟩
  calc t.pc = (afterOperands operands (fetchOpcode s)).pc := frame.pc.resolve_right notTransfers
    _ = s.pc + 1#16 + BitVec.ofNat 16 operands.length := afterOperands_pc frame.length_operands_le (fetchOpcode s)
    _ = s.pc + BitVec.ofNat 16 (encode i).length := by
      rw [bytes, List.length_cons, BitVec.add_assoc, Nat.add_comm, BitVec.ofNat_add]

/-! ### One step -/

/-- Settles O17: an instruction and a decode miss leave the fetched opcode in IR, and a stopped machine leaves all as it
was. -/
theorem everyStepHasASuccessor : Obligations.EveryStepHasASuccessor := by
  intro s
  obtain ⟨hrun, i, rest, -, hstep⟩ | ⟨hrun, -, hstep⟩ | ⟨hrun, hstep⟩ := step_cases s
  case inl =>
    obtain ⟨operands, t, frame⟩ := exists_frame i (fetchOpcode s)
    exact ⟨t, hstep.trans frame.next, by rw [frame.ir, if_pos hrun]; rfl⟩
  case inr.inl => exact ⟨_, hstep, by rw [if_pos hrun]; rfl⟩
  case inr.inr => exact ⟨s, hstep, (if_neg hrun).symm⟩

/-- Settles O16: a step from a stopped machine answers the same state, so any number of them does. -/
theorem stoppedMachineStandsStill : Obligations.StoppedMachineStandsStill := by
  intro n s h
  induction n with
  | zero => rfl
  | succ n ih => exact (core_run_next n (step_of_not_running h)).trans ih

/-! ### W and Z -/

/-- A state that is the same to every program is that state with other values in W and Z (R25). -/
theorem sameButScratch_with (s : State) (w z : Byte) : SameButScratch s { s with w := w, z := z } := rfl

/-- Settles O56: the opcode's fetch, the decoder and the meaning of an instruction read no value of W or Z, so from two
states that differ there only they do the same. -/
theorem scratchRegistersAreDead : Obligations.ScratchRegistersAreDead := by
  intro s u same
  obtain ⟨w, z, rfl⟩ : ∃ w z, u = { s with w := w, z := z } := ⟨u.w, u.z, same.symm⟩
  by_cases hrun : s.run = .running
  · cases hdec : decode (fetchBytes s) with
    | ok p =>
      obtain ⟨operands, t, frame⟩ := exists_frame p.1 (fetchOpcode s)
      obtain ⟨w', z', blind⟩ := frame.blind w z
      exact ⟨t, _, (step_of_decode_ok hrun hdec).trans frame.next,
        (step_of_decode_ok (s := { s with w := w, z := z }) hrun hdec).trans blind, sameButScratch_with t w' z'⟩
    | error e =>
      exact ⟨_, _, step_of_decode_error hrun hdec,
        step_of_decode_error (s := { s with w := w, z := z }) hrun hdec, sameButScratch_with (unmappedOpcode s) w z⟩
  · exact ⟨_, _, step_of_not_running hrun, step_of_not_running hrun, sameButScratch_with s w z⟩

end Sys2Proof.Machine
end

section
/-! PROOFS. The statements of 40_arithmetic.md about CMP, INR, DCR, INX, DCX and DAD (R130 to R138). -/

namespace Sys2Proof.Machine

/-! ### CMP -/

/-- The flags of a discarded difference are those of its remainder, with its borrow (R130). -/
theorem flagsOfDifference_resultFlags (difference : Int) (f : Flags) :
    FlagsOfDifference difference (resultFlags (u8 difference) (borrow difference) f) :=
  ⟨u8 difference, toNat_u8 difference, flagsFrom_resultFlags _ _ _ (borrow_iff difference)⟩

/-- Settles O23: both forms write the flags alone, the immediate one after its operand's fetch, which moves PC and does not
change A. -/
theorem compareWritesFlagsOnly : Obligations.CompareWritesFlagsOnly := by
  intro o v s
  exact ⟨⟨cmpByte (readOperand o s) s, exec_alu s .cmp o, rfl, flagsOfDifference_resultFlags _ _⟩,
    cmpByte v (takeByte s), exec_aluImm s .cmp v, rfl, flagsOfDifference_resultFlags _ _⟩

/-! ### INR and DCR -/

/-- With this machine's parameters INR and DCR carry exactly on the wrap (log 1). -/
theorem stepCarry_parameters_iff (old limit : Byte) (f : Flags) :
    stepCarry parameters (old == limit) f = true ↔ old = limit := by
  simp [stepCarry, parameters]

theorem stepCarry_of_not_written {c : Config} (h : c.inrDcrWriteCy = false) (wrapped : Bool) (f : Flags) :
    stepCarry c wrapped f = f.cy := by
  simp [stepCarry, h]

theorem flagsFrom_incrementOperand (o : Operand) (s : State) :
    FlagsFrom (readOperand o s + 1#8) (readOperand o s = 0xFF#8) (incrementOperand parameters o s).flags :=
  flagsFrom_setZSP _ _ _ (stepCarry_parameters_iff _ _ _)

theorem flagsFrom_decrementOperand (o : Operand) (s : State) :
    FlagsFrom (readOperand o s - 1#8) (readOperand o s = 0x00#8) (decrementOperand parameters o s).flags :=
  flagsFrom_setZSP _ _ _ (stepCarry_parameters_iff _ _ _)

/-- A byte minus one, modulo 256, also on the wrap from zero. -/
theorem toNat_byte_pred (v : Byte) : ((v - 1#8).toNat : Int) = (v.toNat - 1 : Int) % 256 := by
  have := v.isLt
  rw [BitVec.toNat_sub, BitVec.toNat_ofNat]
  omega

/-- Settles O24: each writes its operand and the flags; the operand reads back as one more or one less, and the flags are
of that value, with the carry of the wrap where the parameter says so. -/
theorem incrementDecrementWriteOperandAndFlags : Obligations.IncrementDecrementWriteOperandAndFlags := by
  intro o s
  refine ⟨⟨_, exec_inr s o, onlyOperandDiffers_writeOperand o _ _ s, ?_⟩,
    ⟨_, exec_dcr s o, onlyOperandDiffers_writeOperand o _ _ s, ?_⟩, fun c h => ⟨?_, ?_⟩⟩
  · rw [readOperand_incrementOperand]
    exact ⟨BitVec.toNat_add _ _, flagsFrom_incrementOperand o s⟩
  · rw [readOperand_decrementOperand]
    exact ⟨toNat_byte_pred _, flagsFrom_decrementOperand o s⟩
  · exact stepCarry_of_not_written h _ s.flags
  · exact stepCarry_of_not_written h _ s.flags

/-! ### INX and DCX -/

/-- A word minus one, modulo 65536, also on the wrap from zero. -/
theorem toNat_word_pred (v : Word) : ((v - 1#16).toNat : Int) = (v.toNat - 1 : Int) % 65536 := by
  have := v.isLt
  rw [BitVec.toNat_sub, BitVec.toNat_ofNat]
  omega

/-- Settles O25: each is one write of the pair, which reads back as one more or one less. -/
theorem pairStepsWriteNoFlag : Obligations.PairStepsWriteNoFlag := by
  intro p s
  refine ⟨⟨_, exec_inx s p, ?_⟩, _, exec_dcx s p, ?_⟩
  · rw [getPair_incrementPair]
    exact ⟨rfl, BitVec.toNat_add _ _⟩
  · rw [getPair_decrementPair]
    exact ⟨rfl, toNat_word_pred _⟩

/-! ### DAD -/

/-- Settles O26: the frame is that of a write of H, L and the carry; both are of the exact sum. -/
theorem dadWritesHLAndCarryOnly : Obligations.DadWritesHLAndCarryOnly := by
  intro p s
  exact ⟨addPair p s, exec_dad s p, rfl, hl_addPair p s, addCarry16_iff _⟩

end Sys2Proof.Machine
end

section
/-! PROOFS. The statements about words in memory: LHLD, SHLD (R181, R182), XTHL (R220), and POP after PUSH (R213), with
the image of F that PUSH PSW stores (R32). -/

namespace Sys2Proof.Machine

/-! ### LHLD, SHLD and XTHL -/

/-- Storing H : L puts L at the lower address (R66). -/
theorem storesBytes_writeWord_hl (a : Word) (s : State) : StoresBytes a s.l (a + 1#16) s.h s (writeWord a (hl s) s) := by
  have stored := storesBytes_writeWord a (hl s) s
  rwa [hl_eq, loByte_mkWord, hiByte_mkWord] at stored

/-- Settles O34: the operand's fetch changes neither H, L nor memory, so the word loaded is the one at the address and the
bytes stored are those of the old H and L. -/
theorem directHLTransfersAreLittleEndian : Obligations.DirectHLTransfersAreLittleEndian := by
  intro a s
  refine ⟨?load, _, exec_shld s a, rfl, storesBytes_writeWord_hl a (takeWord a s)⟩
  case load => rw [exec_lhld, loadHLDirect, readWord, (setPair_mkWord _ _ _).2.2]; rfl

/-- Settles O43: H and L are loaded from the old memory, and memory is that of the store of the old H and L. -/
theorem xthlExchangesTopOfStack : Obligations.XthlExchangesTopOfStack := by
  intro s
  have exchanged : exec .xthl s = .next _ := (exec_xthl s).trans (congrArg _ (exchangeTopHL_eq s))
  exact ⟨_, exchanged, rfl, storesBytes_writeWord_hl s.sp s⟩

/-! ### The image of F -/

/-- Bit by bit, the image holds the four flags and zeros (R32). -/
theorem map_getLsbD_flagsImage (f : Flags) :
    (List.range 8).map (flagsImage f).getLsbD = [f.cy, false, f.p, false, false, false, f.z, f.s] := by
  rcases f with ⟨_ | _, _ | _, _ | _, _ | _⟩ <;> rfl

theorem flagsOfImage_flagsImage (f : Flags) : flagsOfImage (flagsImage f) = f := by
  rcases f with ⟨_ | _, _ | _, _ | _, _ | _⟩ <;> rfl

theorem getLsbD_flagsImage (f : Flags) {k : Nat} (hk : k < 8) :
    (flagsImage f).getLsbD k = [f.cy, false, f.p, false, false, false, f.z, f.s].getD k false := by
  rw [← map_getLsbD_flagsImage f]
  simp [List.getD, hk]

/-- Taking the flags from a byte discards the bits that the mask 0xC5 does (R32). -/
theorem flagsImage_flagsOfImage (v : Byte) : flagsImage (flagsOfImage v) = v &&& 0xC5#8 := by
  apply BitVec.eq_of_getLsbD_eq
  intro k hk
  rw [getLsbD_flagsImage _ hk]
  interval_cases k <;> simp [flagsOfImage]

/-- Settles O8: the bits of the image, and the two ways round. -/
theorem flagImageHoldsExactlyTheFlags : Obligations.FlagImageHoldsExactlyTheFlags :=
  ⟨fun f => ⟨map_getLsbD_flagsImage f, flagsOfImage_flagsImage f⟩, flagsImage_flagsOfImage⟩

/-! ### POP after PUSH -/

/-- Writing a pair the word it holds changes nothing, the flags of PSW included (R28, R32). -/
theorem setStackPair_stackPairValue (p : StackPair) (s : State) : setStackPair p (stackPairValue p s) s = s := by
  cases p <;> simp [setStackPair, stackPairValue, setPair, getPair, flagsOfImage_flagsImage]

/-- PC, IR and memory are no part of what PUSH stores. -/
theorem stackPairValue_with (p : StackPair) (opcode : Byte) (pc : Word) (mem : Cells) (s : State) :
    stackPairValue p { s with ir := opcode, pc := pc, mem := mem } = stackPairValue p s := by
  cases p <;> rfl

/-- Popping a word takes SP back to where it was before the word was pushed (R210). -/
theorem poppedWord_pushWord (v : Word) (opcode : Byte) (pc : Word) (s : State) :
    poppedWord { pushWord v s with ir := opcode, pc := pc } =
      { s with ir := opcode, pc := pc, mem := (pushWord v s).mem } := by
  calc poppedWord { pushWord v s with ir := opcode, pc := pc }
    _ = { s with ir := opcode, pc := pc, sp := (pushWord v s).sp + 1#16 + 1#16, mem := (pushWord v s).mem } := rfl
    _ = { s with ir := opcode, pc := pc, mem := (pushWord v s).mem } := by rw [sp_after_push_pop]

/-- Settles O42: the word popped is the word pushed, SP is back where it was, and writing the pair the word it holds
changes nothing. -/
theorem popUndoesPush : Obligations.PopUndoesPush := by
  intro p opcode s
  refine ⟨_, _, exec_push s p, exec_pop _ p, ?_⟩
  calc popPair p { pushPair p s with ir := opcode, pc := s.pc + 1#16 }
    _ = setStackPair p (stackPairValue p s) (poppedWord { pushPair p s with ir := opcode, pc := s.pc + 1#16 }) :=
      congrArg (setStackPair p · _) (popWordValue_pushWord (stackPairValue p s) s)
    _ = setStackPair p (stackPairValue p s)
        { s with ir := opcode, pc := s.pc + 1#16, mem := (pushPair p s).mem } := by
      rw [pushPair, poppedWord_pushWord]
    _ = { s with ir := opcode, pc := s.pc + 1#16, mem := (pushPair p s).mem } := by
      rw [← stackPairValue_with p opcode (s.pc + 1#16) (pushPair p s).mem, setStackPair_stackPairValue]

end Sys2Proof.Machine
end

section
/-! PROOFS. The statement about the canonical form of memory (R60; log 6): the cells listed are exactly those that do not
read as the unlisted value. -/

namespace Sys2Proof.Machine

theorem Cells.read_of_mem {m : Cells} (rising : m.Pairwise fun p q => p.1 < q.1) {p : Host.Cell} (hp : p ∈ m) :
    Cells.read m p.1 = p.2 := by
  induction m with
  | nil => cases hp
  | cons q rest ih =>
    obtain ⟨hq, hrest⟩ := List.pairwise_cons.1 rising
    obtain rfl | hp := List.mem_cons.1 hp
    · exact if_pos rfl
    · exact (if_neg (hq p hp).ne).trans (ih hrest hp)

theorem Cells.mem_of_read_ne {m : Cells} {n : Nat} (h : Cells.read m n ≠ unlisted) : (n, Cells.read m n) ∈ m := by
  induction m with
  | nil => exact absurd rfl h
  | cons q rest ih =>
    obtain ⟨k, v⟩ := q
    by_cases hk : k = n
    · simp [Cells.read, hk]
    · simp only [Cells.read, hk, if_false] at h ⊢
      exact List.mem_cons_of_mem _ (ih h)

/-- A cell listed by one canonical memory is listed by another that reads like it. -/
theorem Memory.mem_of_reads_alike {m n : Cells} (hm : Memory.wf m)
    (alike : ∀ a : Word, Cells.read m a.toNat = Cells.read n a.toNat) {p : Host.Cell} (hp : p ∈ m) : p ∈ n := by
  obtain ⟨hlt, hne⟩ := hm.2 p hp
  have toNat : (BitVec.ofNat 16 p.1).toNat = p.1 := BitVec.toNat_ofNat p.1 16 ▸ Nat.mod_eq_of_lt hlt
  have read : Cells.read n p.1 = p.2 := by
    rw [← Cells.read_of_mem hm.1 hp, ← toNat, alike]
  have listed := Cells.mem_of_read_ne (read ▸ hne)
  rwa [read] at listed

/-- Settles O6: memories that read alike list the same cells, and a list of strictly rising numbers is fixed by its
members. -/
theorem canonicalMemoriesReadingAlikeAreEqual : Obligations.CanonicalMemoriesReadingAlikeAreEqual := by
  intro m n hm hn alike
  have antisymm : Std.Antisymm fun p q : Host.Cell => p.1 < q.1 := ⟨fun _ _ h h' => absurd h h'.asymm⟩
  have irrefl : Std.Irrefl fun p q : Host.Cell => p.1 < q.1 := ⟨fun p => lt_irrefl p.1⟩
  exact hm.1.eq_of_mem_iff hn.1 fun _ =>
    ⟨Memory.mem_of_reads_alike hm alike, Memory.mem_of_reads_alike hn fun a => (alike a).symm⟩

end Sys2Proof.Machine
end

section
/-! PROOFS. The statements of 70_reset_and_hazards.md and 10_state.md section 7 about reset and power-on (R46, R265, R280,
R281). -/

namespace Sys2Proof.Machine

/-- Settles O2: reset is the power-on state with the memory that was there. -/
theorem resetClearsAllButMemory : Obligations.ResetClearsAllButMemory := by
  intro s t
  have registers (r : Reg) : getReg r t = 0x00#8 := by cases r <;> rfl
  exact ⟨registers, rfl, rfl, rfl, rfl, rfl, rfl, fun _ _ => rfl, fun _ _ => rfl, rfl, rfl⟩

/-- Settles O1: the power-on state is what reset makes of it, and no cell of its memory is listed. -/
theorem powerOnStateIsCleared : Obligations.PowerOnStateIsCleared := by
  obtain ⟨registers, w, z, pc, sp, ir, flags, inp, outp, run, -⟩ := resetClearsAllButMemory State.reset
  exact ⟨registers, w, z, pc, sp, ir, flags, inp, outp, run, fun a => Cells.read_nil a.toNat⟩

end Sys2Proof.Machine
end

section
/-! PROOFS. The statements of 60_exceptions.md section 4 about the host's load, peek, poke and port access (R253, R255,
R263, R267, R268). -/

namespace Sys2Proof.Machine

/-! ### load -/

theorem hostLoad_of_neg {start : Int} (h : start < 0) (bytes : List Int) (s : State) :
    hostLoad bytes start s = .error (.outOfBounds start) := if_pos h

theorem hostLoad_of_too_large {bytes : List Int} {start : Int} (h : 0 ≤ start) (large : 65536 < start + bytes.length)
    (s : State) : hostLoad bytes start s = .error .programTooLarge :=
  (if_neg h.not_gt).trans (if_pos large)

theorem hostLoad_of_fits {bytes : List Int} {start : Int} (h : 0 ≤ start) (fits : start + bytes.length ≤ 65536)
    (s : State) : hostLoad bytes start s = .ok { s with mem := storeBytes bytes start.toNat s.mem } :=
  (if_neg h.not_gt).trans (if_neg fits.not_gt)

/-- Settles O57: the two tests of `hostLoad` separate the three cases; where the bytes fit, the cells are those of
`storeBytes`. -/
theorem loadPlacesBytesOrChangesNothing : Obligations.LoadPlacesBytesOrChangesNothing := by
  intro bytes start s
  refine ⟨fun h => hostLoad_of_neg h bytes s, fun h large => hostLoad_of_too_large h large s,
    fun h fits => ⟨_, hostLoad_of_fits h fits s, rfl, fun a => ?placed⟩⟩
  case placed =>
    have inside : (start.toNat ≤ a.toNat ∧ a.toNat < start.toNat + bytes.length) ↔
        (start ≤ a.toNat ∧ (a.toNat : Int) < start + bytes.length) := by omega
    exact (Cells.read_storeBytes bytes start.toNat a.toNat s.mem).trans (if_congr inside rfl rfl)

/-! ### peek and poke -/

theorem isAddress_of_mem {a : Int} (h : 0 ≤ a) (h' : a < 65536) : isAddress a = true := decide_eq_true ⟨h, h'⟩

theorem isAddress_of_not_mem {a : Int} (h : a < 0 ∨ 65536 ≤ a) : isAddress a = false := by
  refine decide_eq_false fun ⟨h0, h1⟩ => ?_
  have : a < 65536 := h1
  omega

/-- A number inside `[0, N)` is the address it names (R7). -/
theorem toNat_ofInt_address {a : Int} (h : 0 ≤ a) (h' : a < 65536) : (BitVec.ofInt 16 a).toNat = a.toNat := by
  rw [BitVec.toNat_ofInt]
  omega

theorem hostPeek_of_mem {a : Int} (h : 0 ≤ a) (h' : a < 65536) (s : State) :
    hostPeek a s = .ok (readByte (BitVec.ofInt 16 a) s) := by
  rw [hostPeek, if_pos (isAddress_of_mem h h'), readByte, toNat_ofInt_address h h']

theorem hostPoke_of_mem {a : Int} (h : 0 ≤ a) (h' : a < 65536) (v : Int) (s : State) :
    hostPoke a v s = .ok (writeByte (BitVec.ofInt 16 a) (BitVec.ofInt 8 v) s) := by
  rw [hostPoke, if_pos (isAddress_of_mem h h'), writeByte, toNat_ofInt_address h h', u8]

theorem hostPeek_of_not_mem {a : Int} (h : a < 0 ∨ 65536 ≤ a) (s : State) : hostPeek a s = .error (.outOfBounds a) :=
  if_neg (ne_true_of_eq_false (isAddress_of_not_mem h))

theorem hostPoke_of_not_mem {a : Int} (h : a < 0 ∨ 65536 ≤ a) (v : Int) (s : State) :
    hostPoke a v s = .error (.outOfBounds a) :=
  if_neg (ne_true_of_eq_false (isAddress_of_not_mem h))

/-! ### The ports -/

theorem hostWritePort_of_defined {p : Byte} (h : p ∈ parameters.inPorts) (v : Byte) (s : State) :
    hostWritePort p v s = some (setInputPort p v s) := if_pos h

theorem hostReadPort_of_defined {p : Byte} (h : p ∈ parameters.outPorts) (s : State) :
    hostReadPort p s = some (outputPort p s) := if_pos h

/-- Settles O58: inside memory peek is a byte read and poke a byte write, whose rules give the rest; so is the write of a
port register by the host. -/
theorem peekPokeAndPortAccess : Obligations.PeekPokeAndPortAccess := by
  refine ⟨fun a v s => ⟨fun h h' => ⟨hostPeek_of_mem h h' s, ?poke⟩, fun h => ⟨hostPeek_of_not_mem h s,
    hostPoke_of_not_mem h v s⟩⟩, fun p v s => ⟨fun h => ?writePort, fun h => hostReadPort_of_defined h s⟩⟩
  case poke => exact ⟨_, hostPoke_of_mem h h' v s, writeByte_eq_with_mem _ _ s, storesByte_writeByte _ _ s⟩
  case writePort => exact ⟨_, hostWritePort_of_defined h v s, rfl, fun q => inputPort_setInputPort p q v s⟩

end Sys2Proof.Machine
end

section
/-! PROOFS. The statement of 60_exceptions.md section 4 about the host's step and run (R264, R266). -/

namespace Sys2Proof.Machine

/-! ### What step and run report -/

/-- step() leaves the state of the cycle and reports its run state (R266). -/
theorem hostStep_of_step {s t : State} (h : step s = .next t) : hostStep s = .next (t, stepReport t.run) := by
  simp only [hostStep, h]

/-- run() called on a stopped machine returns at once, with the report its run state deserves (R264). -/
theorem exists_hostRun_of_not_running {s : State} (h : s.run ≠ .running) :
    ∃ r, ((EndedWell s ∧ r = .ok ()) ∨ ∃ f, s.run = .faulted f ∧ r = .error f) ∧
      ∀ n, hostRun n s = some (s, r) := by
  cases hr : s.run with
  | running => exact absurd hr h
  | halted => exact ⟨.ok (), .inl ⟨hr, rfl⟩, fun n => by cases n <;> simp only [hostRun, hr]⟩
  | faulted f => exact ⟨.error f, .inr ⟨f, rfl, rfl⟩, fun n => by cases n <;> simp only [hostRun, hr]⟩

theorem hostRun_zero_of_running {s : State} (h : s.run = .running) : hostRun 0 s = none := by
  simp only [hostRun, h]

/-- run() on a Running machine performs a step and goes on from there (R92). -/
theorem hostRun_succ_of_running {s t : State} (h : s.run = .running) (hstep : step s = .next t) (n : Nat) :
    hostRun (n + 1) s = hostRun n t := by
  simp only [hostRun, h, hstep]

/-! ### A run that has returned -/

/-- What a run returned with is the report of a stopped machine, and a longer watch sees the same: by induction on the
steps watched, each of which is one step of the machine. -/
theorem report_of_hostRun {n : Nat} {s t : State} {r : Except Fault Unit} (h : hostRun n s = some (t, r)) :
    ((EndedWell t ∧ r = .ok ()) ∨ ∃ f, t.run = .faulted f ∧ r = .error f) ∧ ∀ k, hostRun (n + k) s = some (t, r) := by
  induction n generalizing s with
  | zero =>
    by_cases hs : s.run = .running
    · simp [hostRun_zero_of_running hs] at h
    · obtain ⟨r', report, returns⟩ := exists_hostRun_of_not_running hs
      obtain ⟨rfl, rfl⟩ : s = t ∧ r' = r := by simpa [returns] using h
      exact ⟨report, fun k => returns _⟩
  | succ n ih =>
    by_cases hs : s.run = .running
    · obtain ⟨s', hstep, -⟩ := everyStepHasASuccessor s
      obtain ⟨report, returns⟩ := ih (hostRun_succ_of_running hs hstep n ▸ h)
      exact ⟨report, fun k => by rw [Nat.succ_add, hostRun_succ_of_running hs hstep, returns]⟩
    · obtain ⟨r', report, returns⟩ := exists_hostRun_of_not_running hs
      obtain ⟨rfl, rfl⟩ : s = t ∧ r' = r := by simpa [returns] using h
      exact ⟨report, fun k => returns _⟩

/-- Where `n` steps of the machine end in a stopped state, run() watched for `n` steps returns with it. -/
theorem exists_hostRun_of_core_run {n : Nat} {s t : State} (h : Host.Core.run core n s = .next t)
    (ht : t.run ≠ .running) : ∃ r, hostRun n s = some (t, r) := by
  induction n generalizing s with
  | zero =>
    obtain rfl : s = t := Host.Outcome.next.inj h
    obtain ⟨r, -, returns⟩ := exists_hostRun_of_not_running ht
    exact ⟨r, returns 0⟩
  | succ n ih =>
    obtain ⟨s', hstep, -⟩ := everyStepHasASuccessor s
    by_cases hs : s.run = .running
    · rw [hostRun_succ_of_running hs hstep]
      exact ih (core_run_next n hstep ▸ h)
    · obtain rfl : s = t := Host.Outcome.next.inj ((stoppedMachineStandsStill (n + 1) s hs).symm.trans h)
      obtain ⟨r, -, returns⟩ := exists_hostRun_of_not_running hs
      exact ⟨r, returns _⟩

/-- Settles O59: the report of a step by the run state it leaves; the report of a run, that it stays, and that the run is
there, each by the induction on its steps. -/
theorem stepAndRunReportTheRunState : Obligations.StepAndRunReportTheRunState := by
  refine ⟨fun s => ?step, fun n s t r => report_of_hostRun, fun n s hs => ?stopped,
    fun n s t hs hstep => hostRun_succ_of_running hs hstep n, fun n s t => exists_hostRun_of_core_run⟩
  case step =>
    obtain ⟨t, hstep, -⟩ := everyStepHasASuccessor s
    have report := hostStep_of_step hstep
    cases ht : t.run with
    | running => exact ⟨t, hstep, .inl ⟨ht, by rw [report, ht]; rfl⟩⟩
    | halted => exact ⟨t, hstep, .inr (.inl ⟨ht, by rw [report, ht]; rfl⟩)⟩
    | faulted f => exact ⟨t, hstep, .inr (.inr ⟨f, ht, by rw [report, ht]; rfl⟩)⟩
  case stopped =>
    obtain ⟨r, -, returns⟩ := exists_hostRun_of_not_running hs
    exact ⟨r, returns n⟩

end Sys2Proof.Machine
end

section
/-! PROOFS. The invariant of the machine (Safety.lean): at power-on, over every step and over every action of the host. -/

namespace Sys2Proof.Machine

/-- Settles O53: nothing is listed and nothing has stopped. -/
theorem resetMeetsInvariant : Obligations.ResetMeetsInvariant where
  mem := Memory.wf_nil
  inp := Ports.wf_nil _
  outp := Ports.wf_nil _
  stop := trivial

/-! ### Memory and the port registers over an instruction -/

theorem wf_callWhen {s : State} (wf : Memory.wf s.mem) (cond : Cond) (a : Word) : Memory.wf (callWhen cond a s).mem := by
  cases h : condHolds cond s.flags with
  | true => rw [callWhen_of_holds h]; exact wf_pushWord (s := takeWord a s) wf _
  | false => rw [callWhen_of_not_holds h]; exact wf

theorem eq_of_exec {i : Instr} {s t u : State} (h : exec i s = .next t) (hu : exec i s = .next u) : t = u :=
  Host.Outcome.next.inj (h.symm.trans hu)

/-- An instruction keeps the canonical form of memory: it leaves memory alone, or is one of the listed writers, each of
which stores a byte or a word. -/
theorem wf_mem_of_exec {i : Instr} {s t : State} (h : exec i s = .next t) (wf : Memory.wf s.mem) :
    Memory.wf t.mem := by
  obtain ⟨operands, frame⟩ := frame_of_exec h
  obtain same | ⟨r, rfl⟩ | ⟨v, rfl⟩ | rfl | rfl | ⟨a, rfl | rfl⟩ | ⟨p, rfl⟩ | ⟨p, rfl⟩ | ⟨a, rfl⟩ | ⟨cond, a, rfl⟩ |
    rfl := frame.mem
  · exact same ▸ wf
  · exact eq_of_exec h (exec_movToM s r) ▸ wf_writeByte wf _ _
  · exact eq_of_exec h (exec_mvi s .m v) ▸ wf_writeByte (s := takeByte s) wf _ _
  · exact eq_of_exec h (exec_inr s .m) ▸ wf_writeByte wf _ _
  · exact eq_of_exec h (exec_dcr s .m) ▸ wf_writeByte wf _ _
  · exact eq_of_exec h (exec_sta s a) ▸ wf_writeByte (s := takeWord a s) wf _ _
  · exact eq_of_exec h (exec_shld s a) ▸ wf_writeWord (s := takeWord a s) wf _ _
  · exact eq_of_exec h (exec_stax s p) ▸ wf_writeByte wf _ _
  · exact eq_of_exec h (exec_push s p) ▸ wf_pushWord wf _
  · exact eq_of_exec h (exec_call s a) ▸ wf_pushWord (s := takeWord a s) wf _
  · exact eq_of_exec h (exec_callIf s cond a) ▸ wf_callWhen wf cond a
  · exact eq_of_exec h (exec_xthl s) ▸ wf_writeWord wf _ _

/-- An instruction lists no undefined output port: only OUT writes one, and a defined one (R231). -/
theorem wf_outp_of_exec {i : Instr} {s t : State} (h : exec i s = .next t) (wf : Ports.wf parameters.outPorts s.outp) :
    Ports.wf parameters.outPorts t.outp := by
  obtain ⟨operands, frame⟩ := frame_of_exec h
  obtain same | ⟨p, rfl⟩ := frame.outp
  · exact same ▸ wf
  · obtain rfl := eq_of_exec h (exec_outPort s p)
    by_cases hp : p ∈ parameters.outPorts
    · rw [outputTo_defined hp]; exact Ports.wf_write wf hp s.a
    · rw [outputTo_undefined hp]; exact wf

/-! ### What a stop records -/

/-- The opcode of the decoded instruction is the byte at PC (R90, R100). -/
theorem opcode_of_decode {s : State} {i : Instr} {op : Byte} {operands rest : List Byte}
    (hdec : decode (fetchBytes s) = .ok (i, rest)) (henc : encode i = op :: operands) : readByte s.pc s = op := by
  have bytes := eq_encode_append_of_decode hdec
  rw [henc] at bytes
  exact (List.cons.inj bytes).1

/-- The opcode's fetch and the fetch of the port number leave PC two past the address that the fault records (R252). -/
theorem pc_after_port_fault (pc : Word) : pc + 1#16 + 1#16 = pc + 1#16 - 1#16 + 2#16 := by
  rw [BitVec.add_sub_cancel, word_succ_succ]

/-- A decoded instruction that stops a Running machine leaves the record its stop deserves. -/
theorem stopRecorded_of_exec {s t : State} {i : Instr} {rest : List Byte} (hrun : s.run = .running)
    (hdec : decode (fetchBytes s) = .ok (i, rest)) (h : exec i (fetchOpcode s) = .next t) : StopRecorded t := by
  obtain kept | ⟨rfl, -⟩ | ⟨p, ⟨rfl, hp⟩ | ⟨rfl, hp⟩, -⟩ := runStateRule i (fetchOpcode s) t h
  · have running : t.run = .running := kept.trans hrun
    simp [StopRecorded, running]
  · obtain rfl := eq_of_exec h (exec_hlt _)
    exact opcode_of_decode hdec rfl
  · obtain rfl := eq_of_exec h ((portInstructionsOnUndefinedPortsFault p (fetchOpcode s)).1 hp)
    exact ⟨.inl ⟨opcode_of_decode hdec rfl, hp⟩, pc_after_port_fault s.pc⟩
  · obtain rfl := eq_of_exec h ((portInstructionsOnUndefinedPortsFault p (fetchOpcode s)).2 hp)
    exact ⟨.inr ⟨opcode_of_decode hdec rfl, hp⟩, pc_after_port_fault s.pc⟩

/-! ### The statements -/

/-- Settles O54: an instruction keeps the canonical forms and records its stop; a decode miss changes IR, PC and the run
state, which it sets to the fault the byte deserves; a stopped machine stands still. -/
theorem stepKeepsInvariant : Obligations.StepKeepsInvariant := by
  intro s t inv h
  obtain ⟨hrun, i, rest, hdec, hstep⟩ | ⟨hrun, hmiss, hstep⟩ | ⟨hrun, hstep⟩ := step_cases s
  case inl =>
    have hexec : exec i (fetchOpcode s) = .next t := hstep.symm.trans h
    obtain ⟨operands, frame⟩ := frame_of_exec hexec
    exact {
      mem := wf_mem_of_exec hexec inv.mem
      inp := frame.inp ▸ inv.inp
      outp := wf_outp_of_exec hexec inv.outp
      stop := stopRecorded_of_exec hrun hdec hexec }
  case inr.inl =>
    obtain rfl : unmappedOpcode s = t := Host.Outcome.next.inj (hstep.symm.trans h)
    exact { mem := inv.mem, inp := inv.inp, outp := inv.outp,
            stop := ⟨(opcodeForm_unmapped_iff _).1 hmiss, rfl, rfl⟩ }
  case inr.inr =>
    obtain rfl : s = t := Host.Outcome.next.inj (hstep.symm.trans h)
    exact inv

/-! ### The actions of the host -/

/-- Memory is no part of a stop's record, so memory in canonical form is all that a write to it needs. -/
theorem inv_with_mem {s : State} (inv : Inv s) {mem : Cells} (wf : Memory.wf mem) : Inv { s with mem := mem } :=
  { mem := wf, inp := inv.inp, outp := inv.outp, stop := inv.stop }

/-- Reset keeps memory, lists no port register and sets the run state to Running (R280). -/
theorem inv_hostReset {s : State} (inv : Inv s) : Inv (hostReset s) := inv_with_mem resetMeetsInvariant inv.mem

/-- load stores its bytes only where they fit into memory (R263). -/
theorem inv_of_hostLoad {s t : State} {bytes : List Int} {start : Int} (inv : Inv s)
    (h : hostLoad bytes start s = .ok t) : Inv t := by
  unfold hostLoad at h
  split_ifs at h with negative large
  obtain rfl := Except.ok.inj h
  exact inv_with_mem inv (Memory.wf_storeBytes bytes inv.mem (by omega))

/-- poke stores its byte only at an address (R267). -/
theorem inv_of_hostPoke {s t : State} {a v : Int} (inv : Inv s) (h : hostPoke a v s = .ok t) : Inv t := by
  unfold hostPoke at h
  split_ifs at h with address
  obtain rfl := Except.ok.inj h
  obtain ⟨lower, upper⟩ := of_decide_eq_true address
  exact inv_with_mem inv (Cells.wf_write inv.mem (by omega) _)

/-- The host writes defined input ports alone (R268). -/
theorem inv_of_hostWritePort {s t : State} {p v : Byte} (inv : Inv s) (h : hostWritePort p v s = some t) : Inv t := by
  unfold hostWritePort at h
  split_ifs at h with defined
  obtain rfl := Option.some.inj h
  exact { mem := inv.mem, inp := Ports.wf_write inv.inp defined v, outp := inv.outp, stop := inv.stop }

section

variable {s t : State} {e : Fault}

theorem hostAct_load_of_ok {bytes : List Int} {start : Int} (h : hostLoad bytes start s = .ok t) :
    hostAct (.load bytes start) s = t := by simp only [hostAct, h]; rfl

theorem hostAct_load_of_error {bytes : List Int} {start : Int} (h : hostLoad bytes start s = .error e) :
    hostAct (.load bytes start) s = s := by simp only [hostAct, h]; rfl

theorem hostAct_poke_of_ok {a v : Int} (h : hostPoke a v s = .ok t) : hostAct (.poke a v) s = t := by
  simp only [hostAct, h]; rfl

theorem hostAct_poke_of_error {a v : Int} (h : hostPoke a v s = .error e) : hostAct (.poke a v) s = s := by
  simp only [hostAct, h]; rfl

theorem hostAct_writePort_of_some {p v : Byte} (h : hostWritePort p v s = some t) : hostAct (.writePort p v) s = t := by
  simp only [hostAct, h]; rfl

theorem hostAct_writePort_of_none {p v : Byte} (h : hostWritePort p v s = none) : hostAct (.writePort p v) s = s := by
  simp only [hostAct, h]; rfl

end

/-- An action leaves what its operation answers, or the state as it was. -/
theorem inv_hostAct {s : State} (inv : Inv s) (x : HostAction) : Inv (hostAct x s) := by
  cases x with
  | reset => exact inv_hostReset inv
  | load bytes start =>
    cases h : hostLoad bytes start s with
    | ok t => exact hostAct_load_of_ok h ▸ inv_of_hostLoad inv h
    | error e => exact (hostAct_load_of_error h).symm ▸ inv
  | poke a v =>
    cases h : hostPoke a v s with
    | ok t => exact hostAct_poke_of_ok h ▸ inv_of_hostPoke inv h
    | error e => exact (hostAct_poke_of_error h).symm ▸ inv
  | writePort p v =>
    cases h : hostWritePort p v s with
    | some t => exact hostAct_writePort_of_some h ▸ inv_of_hostWritePort inv h
    | none => exact (hostAct_writePort_of_none h).symm ▸ inv

/-- Settles O55: the invariant over every action, and what each action leaves when its operation succeeds or fails. -/
theorem hostActionsKeepInvariant : Obligations.HostActionsKeepInvariant :=
  ⟨fun x _ inv => inv_hostAct inv x, fun _ _ _ _ _ => ⟨hostAct_load_of_ok, hostAct_load_of_error⟩,
    fun _ _ _ _ _ => ⟨hostAct_poke_of_ok, hostAct_poke_of_error⟩,
    fun _ _ _ _ => ⟨hostAct_writePort_of_some, hostAct_writePort_of_none⟩⟩

end Sys2Proof.Machine
end
